-- ==== Sys2Proof/Word.lean ====
section
/-!
DEFINITION. The words that cross the block's ports and the value types every other file uses: the scalar
register word, the three port words, and the enumerations whose value sets the spec fixes (00_scope.md R8,
30_encoding.md R80, R85, R86, 10_state.md R45). The numbers of the enumerations are in Decode.lean.
-/

namespace Sys2Proof

/-- A scalar register: 16 bits, unsigned unless its rule says signed (R8). -/
abbrev Word := BitVec 16

/-- An event word: `op = w[19:16]`, `arg = w[15:0]` (R80). -/
abbrev EventWord := BitVec 20

/-- An effect word: `eop = e[20:18]`, `ph = e[17:16]`, `val = e[15:0]` (R86). -/
abbrev EffectWord := BitVec 21

/-- A response word: `err = r[16]`, `data = r[15:0]` (R85). -/
abbrev ResponseWord := BitVec 17

/-- The three motor phases, taken in the order A, B, C wherever a rule says "for each phase" (R8). -/
inductive Phase where
  | a | b | c
  deriving DecidableEq, Repr

/-- The source's PhaseDriveState. `off` is never an entry of the Phase-Output Table: it occurs only as a
phase's previous state when no sector is configured (R45, R140(a), R142). -/
inductive DriveState where
  | off | drivenHigh | drivenLow | floatRising | floatFalling
  deriving DecidableEq, Repr

/-- The source's MotorRunState (R24). -/
inductive RunState where
  | off | rampUp | on
  deriving DecidableEq, Repr

/-- What a phase's output was last told to do (R36). -/
inductive OutMode where
  | idle | pwm | low
  deriving DecidableEq, Repr

/-- What an operation answers: `err = 1` for a word that spelt no operation, and the value read (R85). -/
structure Response where
  err : Bool
  data : Word
  deriving DecidableEq, Repr

/-- One value for each phase. -/
structure PerPhase (α : Type) where
  a : α
  b : α
  c : α
  deriving DecidableEq, Repr

/-- The value of one phase. -/
def PerPhase.get {α : Type} (t : PerPhase α) : Phase → α
  | .a => t.a
  | .b => t.b
  | .c => t.c

/-- `isFloat(s)` is true for `FloatRising` and `FloatFalling` only (00_scope.md, glossary). -/
def DriveState.isFloat : DriveState → Bool
  | .floatRising | .floatFalling => true
  | .off | .drivenHigh | .drivenLow => false

end Sys2Proof
end

