-- ==== Sys2Proof/Config.lean ====
section
/-!
DEFINITION. The configuration record `Cfg` of 00_scope.md R6: every constant the source names without a value,
and the two tables. Nothing here is a value of real hardware. `Cfg.ex` is the spec's own illustrative `CFG_EX`
and `PhaseTable.std` its default `PT_STD` (43_phase_switching.md R141). A model is right for every `Cfg` that
meets R7; which ones do is decided in WellFormed.lean.
-/

namespace Sys2Proof

/-- The Phase-Output Table `PT`: for each sector 0..5 the drive state of the three phases (R60(a), R140). -/
structure PhaseTable where
  s0 : PerPhase DriveState
  s1 : PerPhase DriveState
  s2 : PerPhase DriveState
  s3 : PerPhase DriveState
  s4 : PerPhase DriveState
  s5 : PerPhase DriveState
  deriving DecidableEq, Repr

/-- `PT[s]`: the triple of sector `s`; the index is always in 0..5 (R63(c)). -/
def PhaseTable.row (t : PhaseTable) (s : Fin 6) : PerPhase DriveState :=
  match s with
  | 0 => t.s0
  | 1 => t.s1
  | 2 => t.s2
  | 3 => t.s3
  | 4 => t.s4
  | 5 => t.s5

/-- The parameters of R6, in the order of its table. -/
structure Cfg where
  /-- `ADC_W`: width of the ADC result. -/
  adcW : Nat
  /-- `HALF_BUS_REF`: the half-bus-voltage reference. -/
  halfBusRef : Word
  /-- `LOW_SPEED_PERIOD`: the slow start value of `Period`. -/
  lowSpeedPeriod : Word
  /-- `HIGH_SPEED_THRESHOLD`: the ramp ends at or below it. -/
  highSpeedThreshold : Word
  /-- `RAMP_STEP`: what each ramp update takes off `Period`. -/
  rampStep : Word
  /-- `RAMP_DUTY`: the duty forced while ramping. -/
  rampDuty : Word
  /-- `IDLE_DUTY`: the duty set on entry to `On`. -/
  idleDuty : Word
  /-- `PWM_PERIOD`: the PWM resolution. -/
  pwmPeriod : Word
  /-- `DUTY_GUARD`: the near-maximum guard of `increment`. -/
  dutyGuard : Word
  /-- `BUCKET_CAPACITY`: the full leaky bucket. -/
  bucketCapacity : Word
  /-- `V_SHUTDOWN_THRESHOLD`: the undervoltage threshold. -/
  vShutdownThreshold : Word
  /-- `CMD_START_THRESHOLD`: a commanded duty above it runs. -/
  cmdStartThreshold : Word
  /-- `CMD_STOP_THRESHOLD`: a commanded duty below it stops. -/
  cmdStopThreshold : Word
  /-- `MANUAL_STEP`: what a manual speed step moves `Period` by. -/
  manualStep : Word
  /-- `TCT`: the Timing-Correction Table, entry `i` at position `i`; `TABLE_LEN` is its length. -/
  tct : List Word
  /-- `PT`: the Phase-Output Table. -/
  pt : PhaseTable
  deriving DecidableEq, Repr

/-- `TABLE_LEN`. -/
def Cfg.tableLen (c : Cfg) : Nat := c.tct.length

/-- `PT_STD` (R141), the usual six-step table; the spec marks it general knowledge (log entry 14). -/
def PhaseTable.std : PhaseTable where
  s0 := ⟨.drivenHigh, .drivenLow, .floatFalling⟩
  s1 := ⟨.drivenHigh, .floatRising, .drivenLow⟩
  s2 := ⟨.floatFalling, .drivenHigh, .drivenLow⟩
  s3 := ⟨.drivenLow, .drivenHigh, .floatRising⟩
  s4 := ⟨.drivenLow, .floatFalling, .drivenHigh⟩
  s5 := ⟨.floatRising, .drivenLow, .drivenHigh⟩

/-- `CFG_EX` (R6, last column): illustrative only (log entry 2). -/
def Cfg.ex : Cfg where
  adcW := 10
  halfBusRef := 512
  lowSpeedPeriod := 64
  highSpeedThreshold := 16
  rampStep := 4
  rampDuty := 30
  idleDuty := 20
  pwmPeriod := 250
  dutyGuard := 240
  bucketCapacity := 25
  vShutdownThreshold := 300
  cmdStartThreshold := 10
  cmdStopThreshold := 5
  manualStep := 1
  tct := (List.range 32).map fun i => BitVec.ofNat 16 (40 - i)
  pt := .std

end Sys2Proof
end

