-- ==== Sys2Proof/Syntax.lean ====
section
/-!
DEFINITION. The operations of the block, one constructor of `Instr` for each row of spec/opcode_table.json: the
fifteen operations and the reserved code of 30_encoding.md R81, and the six effect words of R87. An effect word
is what an operation emits; as an `Effect` it is an element of an operation's ordered list, as an `Instr` it is
that row of the table carried out on its own.
-/

namespace Sys2Proof

/-- One call of the block on a collaborator (R87). -/
inductive Effect where
  /-- `PWM_ENABLE(p, duty)`, R147. -/
  | pwmEnable (p : Phase) (duty : Word)
  /-- `PWM_DISABLE(p)`, R148. -/
  | pwmDisable (p : Phase)
  /-- `OUTPUT_LOW(p)`, R149. -/
  | outputLow (p : Phase)
  /-- `HB_ENABLE(p, on)`, R150. -/
  | hbEnable (p : Phase) (on : Bool)
  /-- `MASTER_ENABLE(on)`, R151. -/
  | masterEnable (on : Bool)
  /-- `ARM_TIMER(period)`, R152. -/
  | armTimer (period : Word)
  deriving DecidableEq, Repr

/-- The rows of spec/opcode_table.json. Formats N and R ignore `arg`, so their constructors have none (R89). -/
inductive Instr where
  /-- `TICK(arg)`: op 0x0, R160; all 16 bits of `arg` stand here, the meaning reads the low `ADC_W`. -/
  | tick (arg : Word)
  /-- `UPDATE`: op 0x1, R100. -/
  | update
  /-- `START_RAMP`: op 0x2, R190. -/
  | startRamp
  /-- `STOP`: op 0x3, R191. -/
  | stop
  /-- `SET_CMD_DUTY(c)`: op 0x4, R184. -/
  | setCmdDuty (c : Word)
  /-- `MAN_SPD_INC`: op 0x5, R194. -/
  | manSpdInc
  /-- `MAN_SPD_DEC`: op 0x6, R195. -/
  | manSpdDec
  /-- `DUTY_INC`: op 0x7, R180. -/
  | dutyInc
  /-- `DUTY_DEC`: op 0x8, R181. -/
  | dutyDec
  /-- `GET_DUTY`: op 0x9, R196. -/
  | getDuty
  /-- `GET_PERIOD`: op 0xA, R197. -/
  | getPeriod
  /-- `GET_FAULT`: op 0xB, R198. -/
  | getFault
  /-- `GET_VSYS`: op 0xC, R199. -/
  | getVsys
  /-- `GET_ZC`: op 0xD, R200. -/
  | getZc
  /-- `GET_STATE`: op 0xE, R201. -/
  | getState
  /-- The reserved code: op 0xF, R88. -/
  | reservedF
  /-- Effect row `PWM_ENABLE`, R147. -/
  | pwmEnable (p : Phase) (duty : Word)
  /-- Effect row `PWM_DISABLE`, R148. -/
  | pwmDisable (p : Phase)
  /-- Effect row `OUTPUT_LOW`, R149. -/
  | outputLow (p : Phase)
  /-- Effect row `HB_ENABLE`, R150. -/
  | hbEnable (p : Phase) (on : Bool)
  /-- Effect row `MASTER_ENABLE`, R151. -/
  | masterEnable (on : Bool)
  /-- Effect row `ARM_TIMER`, R152. -/
  | armTimer (period : Word)
  deriving DecidableEq, Repr

/-- The two kinds of port on which a row of the table travels; they are never decoded against each other
(R86, R93). -/
inductive Port where
  | event
  | effect
  deriving DecidableEq, Repr

/-- A word on one of the two kinds of port. -/
inductive PortWord where
  | event (w : EventWord)
  | effect (w : EffectWord)
  deriving DecidableEq, Repr

/-- The row of the table an emitted effect word is. -/
def Effect.toInstr : Effect → Instr
  | .pwmEnable p d => .pwmEnable p d
  | .pwmDisable p => .pwmDisable p
  | .outputLow p => .outputLow p
  | .hbEnable p on => .hbEnable p on
  | .masterEnable on => .masterEnable on
  | .armTimer t => .armTimer t

end Sys2Proof
end

