-- ==== Sys2Proof/WellFormed.lean ====
section
/-!
DEFINITION. What is well formed: on which port a row of the table may stand, and which configurations are
configurations of this hardware (00_scope.md R7, 43_phase_switching.md R140). Every check is a Bool of its own;
Tests/Slice0.lean shows for each a term it refuses.
-/

namespace Sys2Proof

/-- The port a row of the table travels on: events in, effects out (R86, R93). -/
def Instr.port : Instr → Port
  | .tick _ | .update | .startRamp | .stop | .setCmdDuty _ | .manSpdInc | .manSpdDec | .dutyInc | .dutyDec
  | .getDuty | .getPeriod | .getFault | .getVsys | .getZc | .getState | .reservedF => .event
  | .pwmEnable _ _ | .pwmDisable _ | .outputLow _ | .hbEnable _ _ | .masterEnable _ | .armTimer _ => .effect

/-- The instruction may stand on that port. The operands need no check: their types hold only what the
encoding admits (a phase is A, B or C; `on` is one bit; `arg`, `duty` and `period` are whole 16-bit fields). -/
def Instr.wellFormedOn (p : Port) (i : Instr) : Bool := i.port == p

/-- An operation of the block, not an effect word. -/
abbrev Instr.isEvent (i : Instr) : Bool := i.wellFormedOn .event

/-- How many phases of a triple are in a class of drive states. -/
def PerPhase.count (t : PerPhase DriveState) (q : DriveState → Bool) : Nat :=
  (q t.a).toNat + (q t.b).toNat + (q t.c).toNat

/-- R140(a): no entry is `Off`. -/
def PerPhase.noneOff (t : PerPhase DriveState) : Bool := t.count (· == .off) == 0

/-- R140(b): at most one phase is `DrivenHigh`. -/
def PerPhase.oneHigh (t : PerPhase DriveState) : Bool := t.count (· == .drivenHigh) ≤ 1

/-- R140(c): at most one phase is `DrivenLow`. -/
def PerPhase.oneLow (t : PerPhase DriveState) : Bool := t.count (· == .drivenLow) ≤ 1

/-- R140(d): at most one phase is floating. -/
def PerPhase.oneFloat (t : PerPhase DriveState) : Bool := t.count DriveState.isFloat ≤ 1

/-- A legal row of `PT` (R140). -/
def PerPhase.legal (t : PerPhase DriveState) : Bool := t.noneOff && t.oneHigh && t.oneLow && t.oneFloat

/-- R7(i): every row of `PT` is legal. -/
def PhaseTable.legal (t : PhaseTable) : Bool :=
  t.s0.legal && t.s1.legal && t.s2.legal && t.s3.legal && t.s4.legal && t.s5.legal

/-- R7(a). -/
def Cfg.periodsOrdered (c : Cfg) : Bool := c.highSpeedThreshold.toNat < c.lowSpeedPeriod.toNat

/-- R7(b). -/
def Cfg.rampStepPositive (c : Cfg) : Bool := 1 ≤ c.rampStep.toNat

/-- R7(c); `PWM_PERIOD <= 65535` holds by its type. -/
def Cfg.dutiesBounded (c : Cfg) : Bool :=
  c.rampDuty.toNat ≤ c.dutyGuard.toNat && c.idleDuty.toNat ≤ c.dutyGuard.toNat &&
    c.dutyGuard.toNat ≤ c.pwmPeriod.toNat

/-- R7(d); `BUCKET_CAPACITY <= 65535` holds by its type. -/
def Cfg.bucketPositive (c : Cfg) : Bool := 1 ≤ c.bucketCapacity.toNat

/-- R7(e). -/
def Cfg.commandRegions (c : Cfg) : Bool :=
  1 ≤ c.cmdStopThreshold.toNat && c.cmdStopThreshold.toNat ≤ c.cmdStartThreshold.toNat + 1

/-- R7(f). -/
def Cfg.adcRange (c : Cfg) : Bool := 1 ≤ c.adcW && c.adcW ≤ 14 && c.halfBusRef.toNat < 2 ^ c.adcW

/-- R7(g). -/
def Cfg.manualStepPositive (c : Cfg) : Bool := 1 ≤ c.manualStep.toNat

/-- R7(h). -/
def Cfg.tableFits (c : Cfg) : Bool := c.tableLen ≤ 65536

/-- The constraints of R7, all of them: what bring-up must supply (R235(a)). A `Cfg` that breaks one is refused
(93_implementation_defined.md U5). -/
def Cfg.legal (c : Cfg) : Bool :=
  c.periodsOrdered && c.rampStepPositive && c.dutiesBounded && c.bucketPositive && c.commandRegions &&
    c.adcRange && c.manualStepPositive && c.tableFits && c.pt.legal

end Sys2Proof
end

