-- ==== Sys2Proof/Decode.lean ====
section
/-!
DEFINITION. Decoding and encoding: the numbers of the enumerations (10_state.md R45), the decoder of event and
effect words (30_encoding.md R80, R81, R86, R87), total and rejecting by name, the encoder written from the same
tables, the tables' own rows (mask and pattern), and the response word (R85).
-/

namespace Sys2Proof

/-! ## Numbers of the enumerations (R45) -/

/-- `A` 0, `B` 1, `C` 2. -/
def Phase.code : Phase → BitVec 2
  | .a => 0
  | .b => 1
  | .c => 2

/-- The phase a two-bit field names; 3 names none. -/
def Phase.ofCode (w : BitVec 2) : Option Phase :=
  match (w.toFin : Fin 4) with
  | 0 => some .a
  | 1 => some .b
  | 2 => some .c
  | 3 => none

/-- `Off` 0, `RampUp` 1, `On` 2. -/
def RunState.code : RunState → BitVec 2
  | .off => 0
  | .rampUp => 1
  | .on => 2

/-- `Off` 0, `DrivenHigh` 1, `DrivenLow` 2, `FloatRising` 3, `FloatFalling` 4. -/
def DriveState.code : DriveState → BitVec 3
  | .off => 0
  | .drivenHigh => 1
  | .drivenLow => 2
  | .floatRising => 3
  | .floatFalling => 4

/-- `IDLE` 0, `PWM` 1, `LOW` 2. -/
def OutMode.code : OutMode → BitVec 2
  | .idle => 0
  | .pwm => 1
  | .low => 2

/-- `PrevSector`: 0..5, `NONE` 7 (R23). -/
def prevSectorCode : Option (Fin 6) → BitVec 3
  | some s => BitVec.ofNat 3 s.val
  | none => 7

/-- `err ++ data` (R85). -/
def Response.encode (r : Response) : ResponseWord := BitVec.ofBool r.err ++ r.data

/-! ## Event words (R80, R81) -/

/-- The instruction an event word spells. Every one of the 16 codes is a row, so nothing is rejected; the
argument is dropped in formats N and R (R89), and the state plays no part (R90). -/
def decodeEvent (w : EventWord) : Instr :=
  let arg : Word := w.extractLsb' 0 16
  match ((w.extractLsb' 16 4).toFin : Fin 16) with
  | 0x0 => .tick arg
  | 0x1 => .update
  | 0x2 => .startRamp
  | 0x3 => .stop
  | 0x4 => .setCmdDuty arg
  | 0x5 => .manSpdInc
  | 0x6 => .manSpdDec
  | 0x7 => .dutyInc
  | 0x8 => .dutyDec
  | 0x9 => .getDuty
  | 0xA => .getPeriod
  | 0xB => .getFault
  | 0xC => .getVsys
  | 0xD => .getZc
  | 0xE => .getState
  | _ => .reservedF -- 0xF, the one code left of the sixteen

/-- `op ++ arg` (R80). -/
def eventWord (op : BitVec 4) (arg : Word) : EventWord := op ++ arg

/-! ## Effect words (R86, R87) -/

/-- Why a 21-bit word is no effect word (93_implementation_defined.md U4). -/
inductive DecodeError where
  /-- `eop` 6 or 7: never emitted. -/
  | noSuchEffect
  /-- `ph` 3: never emitted. -/
  | noSuchPhase
  /-- A field the effect does not use is not 0. -/
  | unusedFieldNotZero
  deriving DecidableEq, Repr

/-- A one-bit operand in bit 0 of `val`, bits 15:1 zero. -/
def bitOperand (v : Word) : Except DecodeError Bool :=
  if v = 0 then .ok false else if v = 1 then .ok true else .error .unusedFieldNotZero

/-- The phase field, or its rejection. -/
def phaseOperand (ph : BitVec 2) : Except DecodeError Phase :=
  match Phase.ofCode ph with
  | some p => .ok p
  | none => .error .noSuchPhase

/-- The effect an effect word spells, or why it spells none. -/
def decodeEffect (w : EffectWord) : Except DecodeError Effect :=
  let ph : BitVec 2 := w.extractLsb' 16 2
  let val : Word := w.extractLsb' 0 16
  match ((w.extractLsb' 18 3).toFin : Fin 8) with
  | 0 => (phaseOperand ph).map fun p => .pwmEnable p val
  | 1 => if val = 0 then (phaseOperand ph).map .pwmDisable else .error .unusedFieldNotZero
  | 2 => if val = 0 then (phaseOperand ph).map .outputLow else .error .unusedFieldNotZero
  | 3 => (phaseOperand ph).bind fun p => (bitOperand val).map (.hbEnable p)
  | 4 => if ph = 0 then (bitOperand val).map .masterEnable else .error .unusedFieldNotZero
  | 5 => if ph = 0 then .ok (.armTimer val) else .error .unusedFieldNotZero
  | 6 => .error .noSuchEffect
  | 7 => .error .noSuchEffect

/-- `eop ++ ph ++ val` (R86). -/
def effectWord (eop : BitVec 3) (ph : BitVec 2) (val : Word) : EffectWord := eop ++ ph ++ val

/-- A one-bit operand as a `val` field. -/
def bitField (on : Bool) : Word := if on then 1 else 0

/-- The word of an effect; a field the effect does not use is 0 (R86, R87). -/
def Effect.encode : Effect → EffectWord
  | .pwmEnable p d => effectWord 0 p.code d
  | .pwmDisable p => effectWord 1 p.code 0
  | .outputLow p => effectWord 2 p.code 0
  | .hbEnable p on => effectWord 3 p.code (bitField on)
  | .masterEnable on => effectWord 4 0 (bitField on)
  | .armTimer t => effectWord 5 0 t

/-! ## The decoder and encoder over both ports -/

/-- The row of the table a word on a port stands for, or why it stands for none. -/
def decode : PortWord → Except DecodeError Instr
  | .event w => .ok (decodeEvent w)
  | .effect w => (decodeEffect w).map Effect.toInstr

/-- The word of an instruction, on the port it travels on; ignored bits are written 0 (R89). -/
def encode : Instr → PortWord
  | .tick arg => .event (eventWord 0x0 arg)
  | .update => .event (eventWord 0x1 0)
  | .startRamp => .event (eventWord 0x2 0)
  | .stop => .event (eventWord 0x3 0)
  | .setCmdDuty c => .event (eventWord 0x4 c)
  | .manSpdInc => .event (eventWord 0x5 0)
  | .manSpdDec => .event (eventWord 0x6 0)
  | .dutyInc => .event (eventWord 0x7 0)
  | .dutyDec => .event (eventWord 0x8 0)
  | .getDuty => .event (eventWord 0x9 0)
  | .getPeriod => .event (eventWord 0xA 0)
  | .getFault => .event (eventWord 0xB 0)
  | .getVsys => .event (eventWord 0xC 0)
  | .getZc => .event (eventWord 0xD 0)
  | .getState => .event (eventWord 0xE 0)
  | .reservedF => .event (eventWord 0xF 0)
  | .pwmEnable p d => .effect (Effect.pwmEnable p d).encode
  | .pwmDisable p => .effect (Effect.pwmDisable p).encode
  | .outputLow p => .effect (Effect.outputLow p).encode
  | .hbEnable p on => .effect (Effect.hbEnable p on).encode
  | .masterEnable on => .effect (Effect.masterEnable on).encode
  | .armTimer t => .effect (Effect.armTimer t).encode

/-! ## The tables as they stand in R81 and R87 -/

/-- The mnemonic of an instruction, as spec/opcode_table.json spells it. -/
def Instr.mnemonic : Instr → String
  | .tick _ => "TICK"
  | .update => "UPDATE"
  | .startRamp => "START_RAMP"
  | .stop => "STOP"
  | .setCmdDuty _ => "SET_CMD_DUTY"
  | .manSpdInc => "MAN_SPD_INC"
  | .manSpdDec => "MAN_SPD_DEC"
  | .dutyInc => "DUTY_INC"
  | .dutyDec => "DUTY_DEC"
  | .getDuty => "GET_DUTY"
  | .getPeriod => "GET_PERIOD"
  | .getFault => "GET_FAULT"
  | .getVsys => "GET_VSYS"
  | .getZc => "GET_ZC"
  | .getState => "GET_STATE"
  | .reservedF => "RESERVED_F"
  | .pwmEnable _ _ => "PWM_ENABLE"
  | .pwmDisable _ => "PWM_DISABLE"
  | .outputLow _ => "OUTPUT_LOW"
  | .hbEnable _ _ => "HB_ENABLE"
  | .masterEnable _ => "MASTER_ENABLE"
  | .armTimer _ => "ARM_TIMER"

/-- A row of an encoding table: a word `w` is of the row when `w & mask = match`. -/
structure Row (n : Nat) where
  name : String
  pattern : BitVec n
  mask : BitVec n
  deriving DecidableEq, Repr

/-- The word is of the row. -/
def Row.has {n : Nat} (r : Row n) (w : BitVec n) : Bool := w &&& r.mask == r.pattern

/-- The operation map of R81, row by row. -/
def eventTable : List (Row 20) :=
  [⟨"TICK", 0x00000, 0xF0000⟩, ⟨"UPDATE", 0x10000, 0xF0000⟩, ⟨"START_RAMP", 0x20000, 0xF0000⟩,
    ⟨"STOP", 0x30000, 0xF0000⟩, ⟨"SET_CMD_DUTY", 0x40000, 0xF0000⟩, ⟨"MAN_SPD_INC", 0x50000, 0xF0000⟩,
    ⟨"MAN_SPD_DEC", 0x60000, 0xF0000⟩, ⟨"DUTY_INC", 0x70000, 0xF0000⟩, ⟨"DUTY_DEC", 0x80000, 0xF0000⟩,
    ⟨"GET_DUTY", 0x90000, 0xF0000⟩, ⟨"GET_PERIOD", 0xA0000, 0xF0000⟩, ⟨"GET_FAULT", 0xB0000, 0xF0000⟩,
    ⟨"GET_VSYS", 0xC0000, 0xF0000⟩, ⟨"GET_ZC", 0xD0000, 0xF0000⟩, ⟨"GET_STATE", 0xE0000, 0xF0000⟩,
    ⟨"RESERVED_F", 0xF0000, 0xF0000⟩]

/-- The effect map of R87, row by row. The rows that carry a phase do not themselves exclude `ph` 3, which the
block never emits (R87). -/
def effectTable : List (Row 21) :=
  [⟨"PWM_ENABLE", 0x000000, 0x1C0000⟩, ⟨"PWM_DISABLE", 0x040000, 0x1CFFFF⟩,
    ⟨"OUTPUT_LOW", 0x080000, 0x1CFFFF⟩, ⟨"HB_ENABLE", 0x0C0000, 0x1CFFFE⟩,
    ⟨"MASTER_ENABLE", 0x100000, 0x1FFFFE⟩, ⟨"ARM_TIMER", 0x140000, 0x1F0000⟩]

/-! ## The host's table words -/

/-- The port word the host's numbering stands for. A word of at most 20 bits is an event word and one of exactly
21 bits an effect word; in any other length (24, when the lengths are rounded up to whole bytes) a word with bit
20 set can only be an effect word and any other is read as an event word (log entry 5). Bits above the word must
be 0. -/
def tableWord (nbits w : Nat) : Option PortWord :=
  if nbits ≤ 20 then
    if w < 2 ^ 20 then some (.event (BitVec.ofNat 20 w)) else none
  else if nbits = 21 then
    if w < 2 ^ 21 then some (.effect (BitVec.ofNat 21 w)) else none
  else if w < 2 ^ 20 then some (.event (BitVec.ofNat 20 w))
  else if w < 2 ^ 21 then some (.effect (BitVec.ofNat 21 w))
  else none

/-- The instruction the decoder reads from a table word, none where it refuses. -/
def decodeTableWord (nbits w : Nat) : Option Instr :=
  match tableWord nbits w with
  | some pw =>
    match decode pw with
    | .ok i => some i
    | .error _ => none
  | none => none

end Sys2Proof
end

