-- ==== Sys2Proof/Machine/State.lean ====
section
/-!
DEFINITION. The state of the block as plain data: every register of 10_state.md R21 to R40, and beside them what
10_state.md R41 calls the arguments of the step function (the configuration, the requests at the ports and the
environment's schedule) and its results (the response and the list of effect words), because a step of this
interface has no other place for them. Enumerations and `Fin` types hold the legal values only, so the values
that 93_implementation_defined.md U3 refuses cannot be written down.
-/

namespace Sys2Proof.Machine

/-- A four-slot sample buffer, 16 bits each, read as signed (R33, R34). -/
structure Slots where
  s0 : Word
  s1 : Word
  s2 : Word
  s3 : Word
  deriving DecidableEq, Repr

/-- The output shadow registers: what the drivers and the timer were last told (R36 to R40). -/
structure Shadow where
  /-- `OutMode[A,B,C]` (R36). -/
  outMode : PerPhase OutMode
  /-- `PwmDuty[A,B,C]` (R37). -/
  pwmDuty : PerPhase Word
  /-- `HbEn[A,B,C]` (R38). -/
  hbEn : PerPhase Bool
  /-- `MasterEn` (R39). -/
  masterEn : Bool
  /-- `TimerPeriod` (R40). -/
  timerPeriod : Word
  deriving DecidableEq, Repr

/-- The three sources of operations (R213). -/
inductive Context where
  | subSector | update | background
  deriving DecidableEq, Repr

/-- What the environment does at the input pins between two operations (R93): it may assert `rst`, and it may
raise a request of each context, which it then holds (DESIGN CHOICE, log entry 22). The quiet arrival raises
nothing. -/
structure Arrival where
  /-- `rst` (R230). -/
  rst : Bool := false
  /-- `tick_req` with `tick_adc`: every `TICK` carries a conversion result, since bring-up starts the ADC and the
  block never does (R235(c)). -/
  tick : Option Word := none
  /-- `upd_req`. -/
  upd : Bool := false
  /-- `cmd_req` with `cmd_word`. -/
  cmd : Option EventWord := none
  deriving DecidableEq, Repr

/-- The pins of R93 other than the response and the effect list: the requests pending, the grant raised by the
last step, the word offered alone on the effect port, and what the environment will do next. -/
structure Ports where
  /-- `tick_req` pending, with `tick_adc`. -/
  tickReq : Option Word
  /-- `upd_req` pending. -/
  updReq : Bool
  /-- `cmd_req` pending, with `cmd_word`. -/
  cmdReq : Option EventWord
  /-- `tick_ack`, `upd_ack` or `cmd_ack`: whose request the last step granted. -/
  ack : Option Context
  /-- The model's own: an effect word to be carried out alone (log entry 4). No operation sets it. -/
  effectLine : Option EffectWord
  /-- The environment's future (R41, R67): what it will do before each of the next choices of an operation. -/
  schedule : List Arrival
  deriving DecidableEq, Repr

/-- The whole machine. -/
structure State where
  /-- The configuration (R6); an argument of the step function (R41), never written. -/
  cfg : Cfg
  /-- `Sector` (R21). -/
  sector : Fin 6
  /-- `TickCounter` (R22). -/
  tickCounter : Fin 4
  /-- `PrevSector`; `none` is `NONE` (R23). -/
  prevSector : Option (Fin 6)
  /-- `RunState` (R24). -/
  runState : RunState
  /-- `Duty` (R25). -/
  duty : Word
  /-- `Period` (R26). -/
  period : Word
  /-- `Vbatt` (R27). -/
  vbatt : Word
  /-- `Vsys` (R28). -/
  vsys : Word
  /-- `Bucket` (R29). -/
  bucket : Word
  /-- `ManualFlag` (R30). -/
  manualFlag : Bool
  /-- `FaultFlag` (R31). -/
  faultFlag : Bool
  /-- `StartReq` (R32). -/
  startReq : Bool
  /-- `Work[0..3]` (R33). -/
  work : Slots
  /-- `Qual[0..3]` (R34). -/
  qual : Slots
  /-- `ZcIntegral` (R35). -/
  zcIntegral : Word
  /-- `OutMode`, `PwmDuty`, `HbEn`, `MasterEn`, `TimerPeriod` (R36 to R40). -/
  shadow : Shadow
  /-- The pins and the schedule (R93, R41). -/
  ports : Ports
  /-- The response of the operation the last step ran, if it ran one (R85). -/
  response : Option Response
  /-- The effect words the last step emitted, in emission order (R86). -/
  effects : List Effect
  deriving DecidableEq, Repr

/-- Reasons to stop with a fault. There are none: the block raises no exception and no trap, and every operation
is total (R210). -/
inductive Fault
  deriving DecidableEq, Repr

/-- Reasons for which a step has no meaning. -/
inductive Refusal where
  /-- Raised by `exec` alone, for an instruction without a meaning yet; safe. No arm uses it now. -/
  | notModelled (mnemonic : String)
  /-- Raised by `fetch`: the configuration breaks a constraint of R7, so it is no configuration of this hardware
  (U5); safe. -/
  | illegalConfig
  /-- Raised by `fetch`: the word offered alone on the effect port is one the block never emits (U4); safe. -/
  | illegalEffectWord (e : DecodeError)
  deriving DecidableEq, Repr

/-- All three phases alike. -/
abbrev everyPhase {α : Type} (x : α) : PerPhase α := ⟨x, x, x⟩

/-- The ports with nothing pending, nothing granted and this schedule ahead. -/
def Ports.quiet (schedule : List Arrival) : Ports where
  tickReq := none
  updReq := false
  cmdReq := none
  ack := none
  effectLine := none
  schedule := schedule

/-- The machine right after reset under a configuration (R230): every register at the value its rule of
10_state.md gives, no request pending, no effect word and no response. The shadows claim what bring-up leaves in
the drivers (R235(b)), and no register is loaded from bring-up's first conversion (R235(d)). -/
def State.resetWith (c : Cfg) : State where
  cfg := c
  sector := 0
  tickCounter := 0
  prevSector := none
  runState := .off
  duty := 0
  period := c.lowSpeedPeriod
  vbatt := 0
  vsys := 0
  bucket := c.bucketCapacity
  manualFlag := false
  faultFlag := false
  startReq := false
  work := ⟨0, 0, 0, 0⟩
  qual := ⟨0, 0, 0, 0⟩
  zcIntegral := 0
  shadow := ⟨everyPhase .idle, everyPhase 0, everyPhase false, false, 0⟩
  ports := .quiet []
  response := none
  effects := []

/-- The machine right after reset. The spec gives no configuration of real hardware; this one runs under the
spec's illustrative `CFG_EX` (DESIGN CHOICE, log entry 2). -/
def State.reset : State := State.resetWith Cfg.ex

end Sys2Proof.Machine
end

