-- ==== Sys2Proof/Machine/Operands.lean ====
section
/-!
DEFINITION. Operands and arithmetic of 00_scope.md R8: the ADC operand of `TICK`, the saturating and averaging
operations, the signed sample sums, and access to the sample slots and to one phase. Arithmetic is exact on
integers and narrowed where the rule narrows it.
-/

namespace Sys2Proof

/-- `u16(v)` of an integer. -/
def u16 (v : Int) : Word := BitVec.ofInt 16 v

/-- `sat_sub(a, b) = max(a - b, 0)`. -/
def satSub (a b : Word) : Word := BitVec.ofNat 16 (a.toNat - b.toNat)

/-- `sat_add(a, b) = min(a + b, 65535)`. -/
def satAdd (a b : Word) : Word := BitVec.ofNat 16 (min (a.toNat + b.toNat) 65535)

/-- `(a + b) div 2` on the 17-bit sum, remainder dropped (R131). -/
def mean (a b : Word) : Word := BitVec.ofNat 16 ((a.toNat + b.toNat) / 2)

/-- `u16(s16(a) + s16(b))` (R164). -/
def signedSum (a b : Word) : Word := u16 (a.toInt + b.toInt)

/-- `zext_16` of a flag (R198). -/
def flagWord (f : Bool) : Word := if f then 1 else 0

/-- `raw <- arg[ADC_W-1:0]` (R161). -/
def Cfg.rawSample (c : Cfg) (arg : Word) : Word := BitVec.ofNat 16 (arg.toNat % 2 ^ c.adcW)

/-- `u16(raw - HALF_BUS_REF)` (R163). -/
def Cfg.delta (c : Cfg) (raw : Word) : Word := u16 ((raw.toNat : Int) - (c.halfBusRef.toNat : Int))

/-- One phase's value replaced. -/
def PerPhase.set {α : Type} (t : PerPhase α) (p : Phase) (v : α) : PerPhase α :=
  match p with
  | .a => { t with a := v }
  | .b => { t with b := v }
  | .c => { t with c := v }

namespace Machine

/-- Read a slot. -/
def Slots.get (w : Slots) (i : Fin 4) : Word :=
  match i with
  | 0 => w.s0
  | 1 => w.s1
  | 2 => w.s2
  | 3 => w.s3

/-- Write a slot; the other three stand. -/
def Slots.set (w : Slots) (i : Fin 4) (v : Word) : Slots :=
  match i with
  | 0 => { w with s0 := v }
  | 1 => { w with s1 := v }
  | 2 => { w with s2 := v }
  | 3 => { w with s3 := v }

end Machine
end Sys2Proof
end

