-- ==== Sys2Proof/Machine/Flags.lean ====
section
/-!
DEFINITION. The block's only flags, `ManualFlag`, `FaultFlag` and `StartReq` (10_state.md R30 to R32), and what
sets and clears each. There are no arithmetic condition codes (R32).
-/

namespace Sys2Proof.Machine

/-- `StartReq <- 1`: a start waits for the next `UPDATE` (R32, R190). -/
def State.requestStart (s : State) : State := { s with startReq := true }

/-- `StartReq <- 0` (R103, R192). -/
def State.clearStart (s : State) : State := { s with startReq := false }

/-- `ManualFlag <- 1` (R194, R195). -/
def State.setManual (s : State) : State := { s with manualFlag := true }

/-- `ManualFlag <- 0` (R105). -/
def State.clearManual (s : State) : State := { s with manualFlag := false }

/-- `FaultFlag <- 0` (R102). -/
def State.clearFault (s : State) : State := { s with faultFlag := false }

/-- `fault_latch()`: an empty bucket sets the flag, nothing here clears it (R133). -/
def State.faultLatch (s : State) : State := if s.bucket = 0 then { s with faultFlag := true } else s

end Sys2Proof.Machine
end

