-- ==== Sys2Proof/Machine/Ops.lean ====
section
/-!
DEFINITION. The operations shared by the meanings: how an operation begins and answers, how effect words are
emitted and what each does to the shadow registers (43_phase_switching.md R147 to R152), the duty writes
(45_duty_controller.md R180 to R182) and the stop procedure (46_control_surface.md R192). The block takes no
exception and returns from none (60_exceptions.md R210, R216, R217), so there is no such operation here: the one
fault's three register writes are steps of `UPDATE` (Undervoltage.lean, Flags.lean).
-/

namespace Sys2Proof.Machine

/-- What an effect word writes in the shadows (R147 to R152). -/
def Shadow.apply (h : Shadow) : Effect → Shadow
  | .pwmEnable p d => { h with outMode := h.outMode.set p .pwm, pwmDuty := h.pwmDuty.set p d }
  | .pwmDisable p => { h with outMode := h.outMode.set p .idle }
  | .outputLow p => { h with outMode := h.outMode.set p .low }
  | .hbEnable p on => { h with hbEn := h.hbEn.set p on }
  | .masterEnable on => { h with masterEn := on }
  | .armTimer t => { h with timerPeriod := t }

/-- A list of effect words written to the shadows one after the other, in order (R240). -/
def Shadow.applyAll (h : Shadow) (es : List Effect) : Shadow := es.foldl Shadow.apply h

/-- The start of every operation: nothing emitted yet, and the answer of an operation that does not say
`respond`, 0 with `err = 0` (R8, R85). -/
def State.begin (s : State) : State := { s with response := some ⟨false, 0⟩, effects := [] }

/-- The start of an effect word carried out alone: it is no operation and answers nothing (R85, R86). -/
def State.beginEffect (s : State) : State := { s with response := none, effects := [] }

/-- `respond v` (R8). -/
def State.respond (s : State) (v : Word) : State := { s with response := some ⟨false, v⟩ }

/-- `refuse`: the answer of a word that spells no operation (R8, R88). -/
def State.refuse (s : State) : State := { s with response := some ⟨true, 0⟩ }

/-- `emit W`: the word joins the operation's list and the shadows follow it (R8, R36 to R40). -/
def State.emit (s : State) (e : Effect) : State :=
  { s with shadow := s.shadow.apply e, effects := s.effects ++ [e] }

/-- A list of words emitted in order. -/
def State.emitAll (s : State) (es : List Effect) : State := es.foldl State.emit s

/-- `set(value)`: an unconditional overwrite of `Duty` (R182). -/
def State.setDuty (s : State) (v : Word) : State := { s with duty := v }

/-- `increment()` (R180). -/
def State.increment (s : State) : State :=
  if s.duty.toNat < s.cfg.dutyGuard.toNat then { s with duty := s.duty + 1 } else s

/-- `decrement()` (R181). -/
def State.decrement (s : State) : State :=
  if 0 < s.duty.toNat then { s with duty := s.duty - 1 } else s

/-- `stop_procedure()`: at once, from any run state, and nothing else (R192). -/
def State.stopProcedure (s : State) : State := { s with runState := .off, startReq := false }

/-- The end of every meaning: the block's operations are total (R210). -/
abbrev done (s : State) : Host.Outcome State Fault Refusal := .next s

end Sys2Proof.Machine
end

