-- ==== Sys2Proof/Machine/ControlSurface.lean ====
section
/-!
DEFINITION. The control surface: start, stop, the manual speed steps, the six reads (46_control_surface.md R190
to R201) and the reserved code (30_encoding.md R88).
-/

namespace Sys2Proof.Machine

/-- `START_RAMP` (R190). -/
def execStartRamp (s : State) : Host.Outcome State Fault Refusal :=
  let s := s.begin
  match s.runState with
  | .off => done s.requestStart
  | .rampUp | .on => done s

/-- `STOP` (R191). -/
def execStop (s : State) : Host.Outcome State Fault Refusal := done s.begin.stopProcedure

/-- `MAN_SPD_INC` (R194): faster is a shorter period. -/
def execManSpdInc (s : State) : Host.Outcome State Fault Refusal :=
  let s := s.begin
  match s.runState with
  | .off => done s.requestStart
  | .rampUp => done s
  | .on => done { s.setManual with period := satSub s.period s.cfg.manualStep }

/-- `MAN_SPD_DEC` (R195): slower is a longer period. -/
def execManSpdDec (s : State) : Host.Outcome State Fault Refusal :=
  let s := s.begin
  match s.runState with
  | .off | .rampUp => done s
  | .on => done { s.setManual with period := satAdd s.period s.cfg.manualStep }

/-- `GET_DUTY` (R196). -/
def execGetDuty (s : State) : Host.Outcome State Fault Refusal := done (s.begin.respond s.duty)

/-- `GET_PERIOD` (R197). -/
def execGetPeriod (s : State) : Host.Outcome State Fault Refusal := done (s.begin.respond s.period)

/-- `GET_FAULT` (R198). -/
def execGetFault (s : State) : Host.Outcome State Fault Refusal :=
  done (s.begin.respond (flagWord s.faultFlag))

/-- `GET_VSYS` (R199). -/
def execGetVsys (s : State) : Host.Outcome State Fault Refusal := done (s.begin.respond s.vsys)

/-- `GET_ZC` (R200). -/
def execGetZc (s : State) : Host.Outcome State Fault Refusal := done (s.begin.respond s.zcIntegral)

/-- `GET_STATE` (R201): `zext_16` of the run state's number. -/
def execGetState (s : State) : Host.Outcome State Fault Refusal :=
  done (s.begin.respond (s.runState.code.setWidth 16))

/-- The reserved code 0xF: refused by its response alone (R88). -/
def execReservedF (s : State) : Host.Outcome State Fault Refusal := done s.begin.refuse

end Sys2Proof.Machine
end

