-- ==== Sys2Proof/Machine/DutyController.lean ====
section
/-!
DEFINITION. The Duty-Cycle Controller: `DUTY_INC`, `DUTY_DEC`, `SET_CMD_DUTY` (45_duty_controller.md R180, R181,
R184). `increment`, `decrement` and `set` stand in Ops.lean.
-/

namespace Sys2Proof.Machine

/-- `DUTY_INC` (R180). -/
def execDutyInc (s : State) : Host.Outcome State Fault Refusal := done s.begin.increment

/-- `DUTY_DEC` (R181). -/
def execDutyDec (s : State) : Host.Outcome State Fault Refusal := done s.begin.decrement

/-- The run region of `SET_CMD_DUTY` (R184): a start in `Off`, one unit toward `c` in `On`. -/
def State.nudge (s : State) (c : Word) : State :=
  match s.runState with
  | .off => s.requestStart
  | .rampUp => s
  | .on =>
    if s.duty.toNat < c.toNat then s.increment
    else if c.toNat < s.duty.toNat then s.decrement
    else s

/-- `SET_CMD_DUTY(c)` (R184): run region, stop region, dead band. -/
def execSetCmdDuty (c : Word) (s : State) : Host.Outcome State Fault Refusal :=
  let s := s.begin
  if s.cfg.cmdStartThreshold.toNat < c.toNat then done (s.nudge c)
  else if c.toNat < s.cfg.cmdStopThreshold.toNat then done s.stopProcedure
  else done s

end Sys2Proof.Machine
end

