-- ==== Sys2Proof/Machine/EffectWords.lean ====
section
/-!
DEFINITION. The six effect words of the opcode table, each carried out alone: the emission of that one word, with
what it writes in the shadows (43_phase_switching.md R147 to R152). Inside an operation the same words are emitted
by `State.emit`.
-/

namespace Sys2Proof.Machine

/-- `PWM_ENABLE(p, duty)` (R147). -/
def execPwmEnable (p : Phase) (duty : Word) (s : State) : Host.Outcome State Fault Refusal :=
  done (s.beginEffect.emit (.pwmEnable p duty))

/-- `PWM_DISABLE(p)` (R148). -/
def execPwmDisable (p : Phase) (s : State) : Host.Outcome State Fault Refusal :=
  done (s.beginEffect.emit (.pwmDisable p))

/-- `OUTPUT_LOW(p)` (R149). -/
def execOutputLow (p : Phase) (s : State) : Host.Outcome State Fault Refusal :=
  done (s.beginEffect.emit (.outputLow p))

/-- `HB_ENABLE(p, on)` (R150). -/
def execHbEnable (p : Phase) (on : Bool) (s : State) : Host.Outcome State Fault Refusal :=
  done (s.beginEffect.emit (.hbEnable p on))

/-- `MASTER_ENABLE(on)` (R151). -/
def execMasterEnable (on : Bool) (s : State) : Host.Outcome State Fault Refusal :=
  done (s.beginEffect.emit (.masterEnable on))

/-- `ARM_TIMER(period)` (R152). -/
def execArmTimer (period : Word) (s : State) : Host.Outcome State Fault Refusal :=
  done (s.beginEffect.emit (.armTimer period))

end Sys2Proof.Machine
end

