-- ==== Sys2Proof/Machine/PhaseSwitching.lean ====
section
/-!
DEFINITION. The Phase Switching Engine: `switch_to` as the ordered list of effect words of its four emitting
steps (43_phase_switching.md R142 to R146, R153). It runs inside `TICK` only and has no encoding (30_encoding.md
R92).
-/

namespace Sys2Proof.Machine

/-- The phases in the order every loop takes them (R8, R142). -/
def phases : List Phase := [.a, .b, .c]

/-- The words a loop over the phases emits. -/
def forPhases (words : Phase → List Effect) : List Effect := phases.flatMap words

/-- Step 2 for one phase: a phase leaving the high side for a floating state loses its PWM first (R143). -/
def disableWords (prev next : DriveState) (p : Phase) : List Effect :=
  if prev = .drivenHigh ∧ next.isFloat = true then [.pwmDisable p] else []

/-- Step 3 for one phase: a phase newly floating has its half-bridge released (R144). -/
def releaseWords (prev next : DriveState) (p : Phase) : List Effect :=
  if next.isFloat = true ∧ prev.isFloat = false then [.hbEnable p false] else []

/-- Step 4 for one phase: a phase newly driven low (R153). -/
def lowWords (prev next : DriveState) (p : Phase) : List Effect :=
  if next = .drivenLow ∧ prev ≠ .drivenLow then [.outputLow p, .hbEnable p true] else []

/-- Step 5 for one phase: a phase newly driven high gets the current duty (R145). -/
def highWords (duty : Word) (prev next : DriveState) (p : Phase) : List Effect :=
  if next = .drivenHigh ∧ prev ≠ .drivenHigh then [.pwmEnable p duty, .hbEnable p true] else []

/-- The words of one switch, every word of a step before any word of the next (R142). -/
def switchWords (duty : Word) (prev next : PerPhase DriveState) : List Effect :=
  forPhases (fun p => disableWords (prev.get p) (next.get p) p) ++
  forPhases (fun p => releaseWords (prev.get p) (next.get p) p) ++
  forPhases (fun p => lowWords (prev.get p) (next.get p) p) ++
  forPhases (fun p => highWords duty (prev.get p) (next.get p) p)

/-- The triple the outputs were last configured for: every phase `Off` when no sector is (R142, step 1). -/
def State.prevRow (s : State) : PerPhase DriveState :=
  match s.prevSector with
  | some p => s.cfg.pt.row p
  | none => everyPhase .off

/-- `switch_to(n)` (R142, R146). -/
def State.switchTo (s : State) (n : Fin 6) : State :=
  { s.emitAll (switchWords s.duty s.prevRow (s.cfg.pt.row n)) with prevSector := some n }

end Sys2Proof.Machine
end

