-- ==== Sys2Proof/Machine/Sampler.lean ====
section
/-!
DEFINITION. The Back-EMF Sampler: `TICK` (44_bemf_sampler.md R160 to R167).
-/

namespace Sys2Proof.Machine

/-- The words of the idle posture, emitted whether or not the shadows already hold it (R162). -/
def idleWords : List Effect :=
  [.hbEnable .a false, .hbEnable .b false, .hbEnable .c false, .masterEnable false]

/-- The idle path: the posture, and no sector configured any more (R162). -/
def State.idlePath (s : State) : State := { s.emitAll idleWords with prevSector := none }

/-- The running path turns the master switch on first when it is off (R166). -/
def State.masterOn (s : State) : State :=
  if s.shadow.masterEn then s else s.emit (.masterEnable true)

/-- `Work[idx] <- u16(raw - HALF_BUS_REF)` (R163). -/
def State.storeSample (s : State) (idx : Fin 4) (raw : Word) : State :=
  { s with work := s.work.set idx (s.cfg.delta raw) }

/-- Qualification by phase A's drive state in the sector just completed: archive the window, take the battery
estimate, or keep nothing (R164). -/
def State.qualify (s : State) (raw : Word) : State :=
  match (s.cfg.pt.row s.sector).a with
  | .floatFalling => { s with qual := s.work, zcIntegral := signedSum s.work.s1 s.work.s2 }
  | .drivenHigh => { s with vbatt := raw }
  | .off | .drivenLow | .floatRising => s

/-- `(Sector + 1) mod 6` (R165). -/
def nextSector (s : Fin 6) : Fin 6 := s + 1

/-- `(TickCounter + 1) mod 4` (R22). -/
def nextTick (t : Fin 4) : Fin 4 := t + 1

/-- Sector advance: the switch, then the sector (R165). -/
def State.advanceSector (s : State) : State :=
  let n := nextSector s.sector
  { s.switchTo n with sector := n }

/-- The running path of `TICK` at slot `idx` (R160). -/
def State.runTick (s : State) (idx : Fin 4) (raw : Word) : State :=
  let s := s.masterOn.storeSample idx raw
  if idx = 3 then (s.qualify raw).advanceSector else s

/-- `TICK(arg)` (R160): the counter is stepped on every call, the slot index is its value before. -/
def execTick (arg : Word) (s : State) : Host.Outcome State Fault Refusal :=
  let idx := s.tickCounter
  let s := { s.begin with tickCounter := nextTick idx }
  match s.runState with
  | .off => done s.idlePath
  | .rampUp | .on => done (s.runTick idx (s.cfg.rawSample arg))

end Sys2Proof.Machine
end

