-- ==== Sys2Proof/Machine/TimingCorrection.lean ====
section
/-!
DEFINITION. The timing-correction lookup (41_timing_correction.md R120 to R123), the last step of `UPDATE` in
`On`; it has no encoding (30_encoding.md R92).
-/

namespace Sys2Proof.Machine

/-- One unit toward the table's entry, whatever the size of the error (R122). -/
def stepToward (period entry : Word) : Word :=
  if period.toNat < entry.toNat then period + 1
  else if entry.toNat < period.toNat then period - 1
  else period

/-- `timing_correct()`: no lookup in manual mode or with `Duty` outside the table (R120, R123). -/
def State.timingCorrect (s : State) : State :=
  if s.manualFlag then s
  else
    match s.cfg.tct[s.duty.toNat]? with
    | some entry => { s with period := stepToward s.period entry }
    | none => s

end Sys2Proof.Machine
end

