-- ==== Sys2Proof/Machine/Undervoltage.lean ====
section
/-!
DEFINITION. The undervoltage fault detector (42_undervoltage.md R131 to R134; `fault_latch` stands in
Flags.lean). Internal steps of `UPDATE` in `On`; they have no encoding (30_encoding.md R92).
-/

namespace Sys2Proof.Machine

/-- `vsys_average()` (R131). -/
def State.vsysAverage (s : State) : State := { s with vsys := mean s.vsys s.vbatt }

/-- `bucket_step()`: the test is strict, the bucket floors at 0 and is capped at its capacity (R132). -/
def State.bucketStep (s : State) : State :=
  if s.vsys.toNat < s.cfg.vShutdownThreshold.toNat then
    if 0 < s.bucket.toNat then { s with bucket := s.bucket - 1 } else s
  else if s.bucket.toNat < s.cfg.bucketCapacity.toNat then { s with bucket := s.bucket + 1 } else s

/-- `fault_force()`: while the flag is latched every update leaves `Duty = 0` (R134). -/
def State.faultForce (s : State) : State := if s.faultFlag then s.setDuty 0 else s

end Sys2Proof.Machine
end

