-- ==== Sys2Proof/Machine/StateMachine.lean ====
section
/-!
DEFINITION. The Commutation State Machine: `UPDATE` and its branches (40_state_machine.md R100 to R107).
-/

namespace Sys2Proof.Machine

/-- `off_step()` (R102). -/
def State.offStep (s : State) : State :=
  { s with period := s.cfg.lowSpeedPeriod, bucket := s.cfg.bucketCapacity }.clearFault

/-- `ramp_done()`, the transition `RampUp -> On` (R105). -/
def State.rampDone (s : State) : State :=
  { s with runState := .on, vsys := s.vbatt }.clearManual.setDuty s.cfg.idleDuty

/-- `ramp_step()`: the duty is re-asserted, the period shortened, and the end of the ramp tested after the
subtraction (R104). -/
def State.rampStep (s : State) : State :=
  let s := s.setDuty s.cfg.rampDuty
  let s := { s with period := satSub s.period s.cfg.rampStep }
  if s.period.toNat ≤ s.cfg.highSpeedThreshold.toNat then s.rampDone else s

/-- `on_step()`: average, bucket, latch, force, correct, in this order (R107). -/
def State.onStep (s : State) : State :=
  s.vsysAverage.bucketStep.faultLatch.faultForce.timingCorrect

/-- The branch `UPDATE` takes (R100): a pending start is consumed after the `Off` resets and takes the first
ramp step in the same update (R103). -/
def State.updateBranch (s : State) : State :=
  match s.runState with
  | .off =>
    let s := s.offStep
    if s.startReq then { s.clearStart with runState := .rampUp }.rampStep else s
  | .rampUp => s.rampStep
  | .on => s.onStep

/-- `UPDATE` (R100): the branch, then the timer re-armed with the period it left (R106). No other operation arms
the timer (R152, R235(e)). -/
def execUpdate (s : State) : Host.Outcome State Fault Refusal :=
  let s := s.begin.updateBranch
  done (s.emit (.armTimer s.period))

end Sys2Proof.Machine
end

