-- ==== Sys2Proof/Machine/Dispatch.lean ====
section
/-!
DEFINITION. The meaning of every instruction: one arm per row of spec/opcode_table.json.
-/

namespace Sys2Proof.Machine

def exec (i : Instr) (s : State) : Host.Outcome State Fault Refusal :=
  match i with
  | .tick arg => Sys2Proof.Machine.execTick arg s
  | .update => Sys2Proof.Machine.execUpdate s
  | .startRamp => Sys2Proof.Machine.execStartRamp s
  | .stop => Sys2Proof.Machine.execStop s
  | .setCmdDuty c => Sys2Proof.Machine.execSetCmdDuty c s
  | .manSpdInc => Sys2Proof.Machine.execManSpdInc s
  | .manSpdDec => Sys2Proof.Machine.execManSpdDec s
  | .dutyInc => Sys2Proof.Machine.execDutyInc s
  | .dutyDec => Sys2Proof.Machine.execDutyDec s
  | .getDuty => Sys2Proof.Machine.execGetDuty s
  | .getPeriod => Sys2Proof.Machine.execGetPeriod s
  | .getFault => Sys2Proof.Machine.execGetFault s
  | .getVsys => Sys2Proof.Machine.execGetVsys s
  | .getZc => Sys2Proof.Machine.execGetZc s
  | .getState => Sys2Proof.Machine.execGetState s
  | .reservedF => Sys2Proof.Machine.execReservedF s
  | .pwmEnable p duty => Sys2Proof.Machine.execPwmEnable p duty s
  | .pwmDisable p => Sys2Proof.Machine.execPwmDisable p s
  | .outputLow p => Sys2Proof.Machine.execOutputLow p s
  | .hbEnable p on => Sys2Proof.Machine.execHbEnable p on s
  | .masterEnable on => Sys2Proof.Machine.execMasterEnable on s
  | .armTimer period => Sys2Proof.Machine.execArmTimer period s

end Sys2Proof.Machine
end

