-- ==== Sys2Proof/Machine/Ports.lean ====
section
/-!
DEFINITION. How the next operation reaches the block: the request lines, the arbiter and the reset input
(30_encoding.md R93, 60_exceptions.md R213, R214, R216, 70_reset_and_hazards.md R230). The block has no program
counter and fetches nothing (10_state.md R44): what a step runs is what its environment requests.
-/

namespace Sys2Proof.Machine

/-- What a step finds at its ports. -/
inductive Fetched where
  /-- An instruction to run on this state. -/
  | run (i : Instr) (s : State)
  /-- No instruction: the block waits, or reset was asserted; the step ends in this state. -/
  | settled (s : State)
  /-- Nothing this hardware can run. -/
  | refused (r : Refusal)
  deriving Repr

/-- The requests of an arrival join those pending. A second request of a context is merged with the first, and
the word present at the pins when the request is taken is the later one (R214, log entry 6). A raised request is
held until its grant or reset: an arrival withdraws none (DESIGN CHOICE, log entry 22; R213 leaves open whether a
context may release its line before the grant). -/
def Ports.raise (p : Ports) (a : Arrival) : Ports :=
  { p with
    tickReq := a.tick.orElse fun _ => p.tickReq
    updReq := a.upd || p.updReq
    cmdReq := a.cmd.orElse fun _ => p.cmdReq }

/-- The next arrival of the schedule raises its requests; a schedule that has ended raises none. -/
def Ports.arrive (p : Ports) : Ports :=
  match p.schedule with
  | [] => p
  | a :: rest => { p with schedule := rest }.raise a

/-- `rst` is asserted before the next choice. -/
def Ports.resetAsserted (p : Ports) : Bool :=
  match p.schedule with
  | [] => false
  | a :: _ => a.rst

/-- The fixed order of R214: `TICK`, then `UPDATE`, then the background's word; the grant clears the request
taken (R213). -/
def Ports.arbitrate (p : Ports) : Option (Instr × Ports) :=
  match p.tickReq, p.updReq, p.cmdReq with
  | some adc, _, _ => some (.tick adc, { p with tickReq := none, ack := some .subSector })
  | none, true, _ => some (.update, { p with updReq := false, ack := some .update })
  | none, false, some w => some (decodeEvent w, { p with cmdReq := none, ack := some .background })
  | none, false, none => none

/-- Reset loads every register with its reset value, discards every pending request, and emits nothing; the
configuration and the environment's future are not registers (R230). -/
def State.resetNow (s : State) : State :=
  { State.resetWith s.cfg with ports := .quiet s.ports.schedule.tail }

/-- The block has nothing to run: it waits for a request, and its outputs of the last step are gone (R230). It is
the block's only waiting: no operation waits (R235(d)). -/
def State.wait (s : State) (p : Ports) : State :=
  { s with ports := { p with ack := none }, response := none, effects := [] }

/-- The next operation, by the requests. -/
def State.fetchEvent (s : State) : Fetched :=
  match s.ports.arrive.arbitrate with
  | some (i, p) => .run i { s with ports := p }
  | none => .settled (s.wait s.ports.arrive)

/-- The effect word offered alone (log entry 4); it answers no request. -/
def State.fetchEffect (s : State) (w : EffectWord) : Fetched :=
  match decodeEffect w with
  | .ok e => .run e.toInstr { s with ports := { s.ports with effectLine := none, ack := none } }
  | .error e => .refused (.illegalEffectWord e)

/-- What the step finds: an illegal configuration is refused first (R7, U5); an effect word still on its port
leaves before the next operation begins (R240); then reset (R230), then the requests. -/
def State.fetch (s : State) : Fetched :=
  if s.cfg.legal then
    match s.ports.effectLine with
    | some w => s.fetchEffect w
    | none => if s.ports.resetAsserted then .settled s.resetNow else s.fetchEvent
  else .refused .illegalConfig

/-- A port word placed so that the very next step runs it: an event word as the background's request, with no
request before it and a quiet arrival ahead; an effect word alone on the effect port. -/
def State.place (s : State) : PortWord → State
  | .event w =>
    { s with
      ports := { s.ports with
        tickReq := none
        updReq := false
        cmdReq := some w
        effectLine := none
        schedule := {} :: s.ports.schedule } }
  | .effect w => { s with ports := { s.ports with effectLine := some w } }

end Sys2Proof.Machine
end

