-- ==== Sys2Proof/Machine/Step.lean ====
section
/-!
DEFINITION. One step: what the ports hold next, and the meaning of that instruction.
-/

namespace Sys2Proof.Machine

/-- One step of the block: one operation, atomic and run to its end (20_memory.md R67), or one wait, reset or
refusal when `fetch` finds no instruction. -/
def step (s : State) : Host.Outcome State Fault Refusal :=
  match s.fetch with
  | .run i s' => exec i s'
  | .settled s' => .next s'
  | .refused r => .refused r

/-- The state in which the very next step runs the table word `w`; a word with bits above its row is left
out. -/
def State.withFetchWord (s : State) (nbits w : Nat) : State :=
  match tableWord nbits w with
  | some pw => s.place pw
  | none => s

end Sys2Proof.Machine
end

