-- ==== Sys2Proof/Safety.lean ====
section
/-!
DEFINITION. The terms in which claims are made: how the shadow registers read as a drive (43_phase_switching.md
R155), the invariants of reachable states (10_state.md R43) and of the outputs (R154), and sequences of
operations (20_memory.md R67: every order of operations is allowed, so a safe run is one of any sequence).
-/

namespace Sys2Proof
namespace Machine

/-! ## Reading the outputs -/

/-- The phase's PWM reaches its bridge: `OutMode = PWM` and `HbEn = 1` (R154(b)). -/
def Shadow.poweredHigh (h : Shadow) (p : Phase) : Bool := h.outMode.get p == .pwm && h.hbEn.get p

/-- Phase `p` drives high (R155). -/
def Shadow.drivesHigh (h : Shadow) (p : Phase) : Bool := h.masterEn && h.poweredHigh p

/-- Phase `p` drives low (R155); whether the master switch gates it is not said, and not used. -/
def Shadow.drivesLow (h : Shadow) (p : Phase) : Bool := h.outMode.get p == .low && h.hbEn.get p

/-- Phase `p` is non-conducting (R155). -/
def Shadow.nonConducting (h : Shadow) (p : Phase) : Bool := !h.hbEn.get p

/-- At most one phase has its PWM reaching the bridge. -/
def Shadow.oneHighAtMost (h : Shadow) : Prop :=
  ∀ p q, h.poweredHigh p = true → h.poweredHigh q = true → p = q

/-- At most one phase drives low. -/
def Shadow.oneLowAtMost (h : Shadow) : Prop :=
  ∀ p q, h.drivesLow p = true → h.drivesLow q = true → p = q

/-- The idle posture: every half-bridge enable low and the master switch off (R162, glossary). -/
def Shadow.idlePosture (h : Shadow) : Prop := h.hbEn = everyPhase false ∧ h.masterEn = false

/-- What bring-up leaves in the drivers before the first operation: every phase's PWM off, every half-bridge enable
low, the master switch off (R235(b)). -/
def Shadow.broughtUp (h : Shadow) : Prop := (∀ p, h.outMode.get p ≠ .pwm) ∧ h.idlePosture

/-- The outputs are those of a row of `PT` (R154(a)). -/
def Shadow.configuredFor (h : Shadow) (row : PerPhase DriveState) : Prop :=
  ∀ p,
    (row.get p = .drivenHigh → h.outMode.get p = .pwm ∧ h.hbEn.get p = true) ∧
    (row.get p = .drivenLow → h.outMode.get p = .low ∧ h.hbEn.get p = true) ∧
    ((row.get p).isFloat = true → h.hbEn.get p = false)

/-! ## Invariants -/

/-- Every slot, read as signed, lies in `-(2^n - 1) .. 2^n - 1` (R43(h)). -/
def Slots.within (w : Slots) (n : Nat) : Prop :=
  ∀ i, -(2 ^ n - 1 : Int) ≤ (w.get i).toInt ∧ (w.get i).toInt ≤ (2 ^ n - 1 : Int)

/-- The invariants of R43; (a), (f) and the ranges of the enumerations hold by the types of State. -/
structure State.Inv (s : State) : Prop where
  /-- The configuration meets R7. -/
  legal : s.cfg.legal = true
  /-- R43(b). -/
  prevSector : ∀ p, s.prevSector = some p → p = s.sector
  /-- R43(c). -/
  bucket : s.bucket.toNat ≤ s.cfg.bucketCapacity.toNat
  /-- R43(d). -/
  duty : s.duty.toNat ≤ s.cfg.dutyGuard.toNat ∧ s.cfg.dutyGuard.toNat ≤ s.cfg.pwmPeriod.toNat
  /-- R43(e). -/
  startReq : s.startReq = true → s.runState = .off
  /-- R43(g). -/
  vbatt : s.vbatt.toNat < 2 ^ s.cfg.adcW
  /-- R43(g). -/
  vsys : s.vsys.toNat < 2 ^ s.cfg.adcW
  /-- R43(h). -/
  work : s.work.within s.cfg.adcW
  /-- R43(h). -/
  qual : s.qual.within s.cfg.adcW
  /-- R43(h). -/
  zcIntegral : s.zcIntegral.toInt = s.qual.s1.toInt + s.qual.s2.toInt

/-- What holds while ramping: the bucket is full, no fault is latched, and the period has not reached the
threshold (R104, R105). -/
def State.RampInv (s : State) : Prop :=
  s.runState = .rampUp →
    s.bucket = s.cfg.bucketCapacity ∧ s.faultFlag = false ∧
      s.cfg.highSpeedThreshold.toNat < s.period.toNat

/-- The outputs agree with `PrevSector` (R154(a), R162, R166): with a sector configured they are those of its row
and the master switch is on; with none every half-bridge is released. No effect word waits alone on its port
(log entry 4). -/
structure State.OutputsMatch (s : State) : Prop where
  configured : ∀ p, s.prevSector = some p → s.shadow.configuredFor (s.cfg.pt.row p) ∧ s.shadow.masterEn = true
  released : s.prevSector = none → ∀ p, s.shadow.hbEn.get p = false
  noLine : s.ports.effectLine = none

/-! ## Sequences of operations -/

/-- The response of an operation that is not refused (R85). -/
abbrev answer (v : Word) : Option Response := some ⟨false, v⟩

/-- `RunState != Off`. -/
abbrev State.running (s : State) : Prop := s.runState ≠ .off

/-- The next state of an outcome, none if it stopped. -/
def nextState (o : Host.Outcome State Fault Refusal) : Option State :=
  match o with
  | .next t => some t
  | .fault _ => none
  | .refused _ => none

/-- A sequence of instructions, one after the other (R67, R246). -/
def runOps : List Instr → State → Host.Outcome State Fault Refusal
  | [], s => .next s
  | i :: rest, s =>
    match exec i s with
    | .next t => runOps rest t
    | .fault r => .fault r
    | .refused r => .refused r

end Machine

/-- The instruction runs the stop procedure (R191, R184). -/
def Instr.stops (c : Cfg) : Instr → Bool
  | .stop => true
  | .setCmdDuty v => !(c.cmdStartThreshold.toNat < v.toNat) && v.toNat < c.cmdStopThreshold.toNat
  | .tick _ | .update | .startRamp | .manSpdInc | .manSpdDec | .dutyInc | .dutyDec
  | .getDuty | .getPeriod | .getFault | .getVsys | .getZc | .getState | .reservedF
  | .pwmEnable _ _ | .pwmDisable _ | .outputLow _ | .hbEnable _ _ | .masterEnable _ | .armTimer _ => false

namespace Machine

/-- How many `UPDATE`s a sequence holds. -/
def updates (ops : List Instr) : Nat := ops.count .update

/-- How many `UPDATE`s of a sequence, run from a state, find the machine in `On` (R135(a)). -/
def updatesInOn : List Instr → State → Nat
  | [], _ => 0
  | i :: rest, s =>
    (if i = .update ∧ s.runState = .on then 1 else 0) +
      match exec i s with
      | .next t => updatesInOn rest t
      | .fault _ => 0
      | .refused _ => 0

/-- The length of the ramp in updates, `ceil((LOW_SPEED_PERIOD - HIGH_SPEED_THRESHOLD) / RAMP_STEP)` (R108). -/
def rampLength (c : Cfg) : Nat :=
  (c.lowSpeedPeriod.toNat - c.highSpeedThreshold.toNat + (c.rampStep.toNat - 1)) / c.rampStep.toNat

end Machine
end Sys2Proof
end

