-- ==== Sys2Proof/Certificates/Slice0/Obligations.lean ====
section
/-!
DEFINITION. The statements about the model. A result is stated as an equation `exec i s = .next { s with … }`
wherever it can be, so that it says at once that the instruction completes, every value it writes, and its frame:
every field that is not named stands. `D<n>` names a decision of spec/92_eei_decisions.md that a clause rests on.
-/

open Sys2Proof Sys2Proof.Machine

/-! ## Encoding -/

/-- No bit of an encoding is dropped: decoding the word of any row of the table gives the row back, with every
operand at every value (30_encoding.md sections 1 and 2; the numbers are D1 and D2). -/
def Obligations.DecodeEncodeRoundTrip : Prop := ∀ i : Instr, decode (encode i) = .ok i

/-- An effect word the decoder accepts is the one word the encoder writes for that effect: unused fields are 0
and no two words spell one effect (30_encoding.md section 2, 93_implementation_defined.md U4). -/
def Obligations.EffectWordsHaveOneSpelling : Prop :=
  ∀ (w : EffectWord) (e : Effect), decodeEffect w = .ok e → e.encode = w

/-- A 20-bit word decodes to the row of the operation map whose mask and match it meets, and to no other row
(30_encoding.md section 1, D1). -/
def Obligations.EventDecodingFollowsOperationMap : Prop :=
  ∀ (w : EventWord), ∀ r ∈ eventTable, (r.has w = true ↔ (decodeEvent w).mnemonic = r.name)

/-- A 21-bit word whose phase field is not 3 decodes to a row of the effect map exactly when it meets that row's
mask and match; a word with phase 3 decodes to none (30_encoding.md section 2, D2). -/
def Obligations.EffectDecodingFollowsEffectMap : Prop :=
  ∀ (w : EffectWord), ∀ r ∈ effectTable,
    ((r.has w = true ∧ w.extractLsb' 16 2 ≠ 3) ↔
      ∃ e, decodeEffect w = .ok e ∧ e.toInstr.mnemonic = r.name)

/-- Words of 95_test_vectors.md section 2.1 decode to what they stand for, the reserved and the ignored-bits ones
among them. -/
def Obligations.WordsOfTheVectorsDecode : Prop :=
  decodeEvent 0x002BC = .tick 700 ∧ decodeEvent 0x0FEBC = .tick 0xFEBC ∧ decodeEvent 0x1FFFF = .update ∧
  decodeEvent 0x40030 = .setCmdDuty 48 ∧ decodeEvent 0x4FFFF = .setCmdDuty 65535 ∧
  decodeEvent 0xE0000 = .getState ∧ decodeEvent 0xF1234 = .reservedF ∧
  decodeEffect 0x0200F0 = .ok (.pwmEnable .c 240) ∧ decodeEffect 0x0D0001 = .ok (.hbEnable .b true) ∧
  decodeEffect 0x100001 = .ok (.masterEnable true) ∧ decodeEffect 0x140040 = .ok (.armTimer 64)

/-- Ignored bits select nothing: in formats N and R the whole `arg`, in `TICK` the bits above `ADC_W`
(30_encoding.md section 3, D21). -/
def Obligations.IgnoredBitsSelectNothing : Prop :=
  (∀ (op : BitVec 4) (arg arg' : Word), op ≠ 0x0 → op ≠ 0x4 →
    decodeEvent (eventWord op arg) = decodeEvent (eventWord op arg')) ∧
  ∀ (s : State) (arg arg' : Word), arg.toNat % 2 ^ s.cfg.adcW = arg'.toNat % 2 ^ s.cfg.adcW →
    exec (.tick arg) s = exec (.tick arg') s

/-! ## A step -/

/-- A step of a legal machine, with no effect word waiting and no reset asserted, runs the decoded instruction of
the first pending request in the order `TICK`, `UPDATE`, background, with that request cleared and granted
(30_encoding.md section 5, 60_exceptions.md sections 2 and 3, D4). -/
def Obligations.StepRunsRequestedOperation : Prop :=
  ∀ s : State, s.cfg.legal = true → s.ports.effectLine = none → s.ports.resetAsserted = false →
    (∀ adc, s.ports.arrive.tickReq = some adc →
      step s = exec (.tick adc)
        { s with ports := { s.ports.arrive with tickReq := none, ack := some .subSector } }) ∧
    (s.ports.arrive.tickReq = none → s.ports.arrive.updReq = true →
      step s = exec .update
        { s with ports := { s.ports.arrive with updReq := false, ack := some .update } }) ∧
    (s.ports.arrive.tickReq = none → s.ports.arrive.updReq = false →
      ∀ w i, s.ports.arrive.cmdReq = some w → decode (.event w) = .ok i →
        step s = exec i
          { s with ports := { s.ports.arrive with cmdReq := none, ack := some .background } })

/-- The word of any row of the table, placed at its port, is what the very next step runs; an effect word that is
never emitted is refused. The placing is the model's own choice (log entries 1 and 4). -/
def Obligations.PlacedWordIsRunNext : Prop :=
  ∀ s : State, s.cfg.legal = true →
    (∀ i : Instr, i.port = .event →
      step (s.place (encode i)) = exec i
        { s with
          ports := { s.ports with
            tickReq := none, updReq := false, cmdReq := none, ack := some .background,
            effectLine := none } }) ∧
    (∀ i : Instr, i.port = .effect →
      step (s.place (encode i)) = exec i
        { s with ports := { s.ports with effectLine := none, ack := none } }) ∧
    ∀ (w : EffectWord) (e : DecodeError), decode (.effect w) = .error e →
      step (s.place (.effect w)) = .refused (.illegalEffectWord e)

/-- Requests join those pending, one of each context: a request that arrives while one of its context is pending
is merged with it and brings the word at the pins (60_exceptions.md section 3, log entry 6); a pending request that
no arrival raises again stays pending, which is the model's choice (log entry 22, DESIGN CHOICE; 60_exceptions.md
section 2 leaves open whether a line may be released before its grant); with nothing requested the block waits:
every register stands and nothing is granted, answered or emitted (70_reset_and_hazards.md section 1, log entry
7). -/
def Obligations.RequestsMergeAndBlockWaits : Prop :=
  (∀ (p : Ports) (a : Arrival) (rest : List Arrival), p.schedule = a :: rest →
    p.arrive = { p with
      tickReq := match a.tick with | some adc => some adc | none => p.tickReq
      updReq := a.upd || p.updReq
      cmdReq := match a.cmd with | some w => some w | none => p.cmdReq
      schedule := rest }) ∧
  ∀ s : State, s.cfg.legal = true → s.ports.effectLine = none → s.ports.resetAsserted = false →
    s.ports.arrive.tickReq = none → s.ports.arrive.updReq = false → s.ports.arrive.cmdReq = none →
    step s = .next { s with
      ports := { s.ports.arrive with ack := none }, response := none, effects := [] }

/-- Reset asserted between two operations loads every register with its reset value, discards every request and
emits nothing; the values are those of 70_reset_and_hazards.md section 1, all but `RunState = Off` the spec's
decision D22. -/
def Obligations.ResetLoadsResetValues : Prop :=
  (∀ (s : State) (a : Arrival) (rest : List Arrival), s.cfg.legal = true → s.ports.effectLine = none →
    s.ports.schedule = a :: rest → a.rst = true →
    step s = .next { State.resetWith s.cfg with ports := .quiet rest }) ∧
  ∀ c : Cfg, State.resetWith c =
    { cfg := c, sector := 0, tickCounter := 0, prevSector := none, runState := .off, duty := 0,
      period := c.lowSpeedPeriod, vbatt := 0, vsys := 0, bucket := c.bucketCapacity, manualFlag := false,
      faultFlag := false, startReq := false, work := ⟨0, 0, 0, 0⟩, qual := ⟨0, 0, 0, 0⟩, zcIntegral := 0,
      shadow :=
        { outMode := ⟨.idle, .idle, .idle⟩, pwmDuty := ⟨0, 0, 0⟩, hbEn := ⟨false, false, false⟩,
          masterEn := false, timerPeriod := 0 },
      ports := .quiet [], response := none, effects := [] }

/-- The first operation after reset: a `TICK` asserts the idle posture, an `UPDATE` arms the timer with the
low-speed period, a read answers the reset value (70_reset_and_hazards.md section 1, R231 as the spec derives
it). -/
def Obligations.FirstOperationAfterReset : Prop :=
  ∀ c : Cfg,
    (∀ arg, ∃ t, exec (.tick arg) (State.resetWith c) = .next t ∧ t.tickCounter = 1 ∧
      t.effects = [.hbEnable .a false, .hbEnable .b false, .hbEnable .c false, .masterEnable false]) ∧
    (∃ t, exec .update (State.resetWith c) = .next t ∧ t.runState = .off ∧
      t.effects = [.armTimer c.lowSpeedPeriod]) ∧
    (∃ t, exec .getPeriod (State.resetWith c) = .next t ∧ t.response = answer c.lowSpeedPeriod) ∧
    (∀ i ∈ [Instr.getDuty, .getFault, .getVsys, .getZc, .getState],
      ∃ t, exec i (State.resetWith c) = .next t ∧ t.response = answer 0)

/-- A configuration that breaks a constraint is refused (00_scope.md R7, U5); a legal machine with no effect word
waiting alone never stops (60_exceptions.md section 1: every operation is total). -/
def Obligations.OnlyIllegalConfigurationsStop : Prop :=
  ∀ s : State,
    (s.cfg.legal = false → step s = .refused .illegalConfig) ∧
    (s.cfg.legal = true → s.ports.effectLine = none → ∃ t, step s = .next t ∧ t.ports.effectLine = none)

/-- No step changes the configuration or either table (20_memory.md section 3, coherence of the program). -/
def Obligations.StepKeepsConfiguration : Prop :=
  ∀ s t : State, step s = .next t → t.cfg = s.cfg

/-- Every instruction completes in every state, and neither reads nor writes the request lines: whoever sends it,
its result is the same (60_exceptions.md sections 1 and 5). -/
def Obligations.OperationsAreTotalAndIgnorePorts : Prop :=
  ∀ (i : Instr) (s : State), ∃ t, exec i s = .next t ∧ t.ports = s.ports ∧
    ∀ p : Ports, exec i { s with ports := p } = .next { t with ports := p }

/-! ## UPDATE -/

/-- `UPDATE` in `Off` with no start pending (40_state_machine.md section 2; that it clears the fault flag is D7,
that no ramp-arming timer exists D24). -/
def Obligations.UpdateInOffResets : Prop :=
  ∀ s : State, s.runState = .off → s.startReq = false →
    exec .update s = .next { s with
      period := s.cfg.lowSpeedPeriod
      bucket := s.cfg.bucketCapacity
      faultFlag := false
      shadow := { s.shadow with timerPeriod := s.cfg.lowSpeedPeriod }
      response := answer 0
      effects := [.armTimer s.cfg.lowSpeedPeriod] }

/-- `UPDATE` in `Off` with a start pending does the `Off` resets, consumes the request and takes the first ramp
step, which may already end the ramp (40_state_machine.md sections 2 and 3, D5, D16). That it then leaves `On` in
this one `UPDATE`, passing through `RampUp`, is the model's reading of section 6, which lists no transition from
`Off` to `On` (log entry 17, DEDUCED). -/
def Obligations.UpdateStartsRamp : Prop :=
  ∀ s : State, s.runState = .off → s.startReq = true →
    ∃ p : Word, p.toNat = s.cfg.lowSpeedPeriod.toNat - s.cfg.rampStep.toNat ∧
      (s.cfg.highSpeedThreshold.toNat < p.toNat →
        exec .update s = .next { s with
          runState := .rampUp, startReq := false, duty := s.cfg.rampDuty, period := p
          bucket := s.cfg.bucketCapacity, faultFlag := false
          shadow := { s.shadow with timerPeriod := p }, response := answer 0, effects := [.armTimer p] }) ∧
      (p.toNat ≤ s.cfg.highSpeedThreshold.toNat →
        exec .update s = .next { s with
          runState := .on, startReq := false, duty := s.cfg.idleDuty, period := p, vsys := s.vbatt
          manualFlag := false, bucket := s.cfg.bucketCapacity, faultFlag := false
          shadow := { s.shadow with timerPeriod := p }, response := answer 0, effects := [.armTimer p] })

/-- `UPDATE` in `RampUp` whose step leaves the period above the threshold (40_state_machine.md section 3; that the
duty is re-asserted is D23, that the subtraction saturates D16). -/
def Obligations.UpdateShortensRamp : Prop :=
  ∀ s : State, s.runState = .rampUp →
    s.cfg.highSpeedThreshold.toNat < s.period.toNat - s.cfg.rampStep.toNat →
    ∃ p : Word, p.toNat = s.period.toNat - s.cfg.rampStep.toNat ∧
      exec .update s = .next { s with
        duty := s.cfg.rampDuty, period := p
        shadow := { s.shadow with timerPeriod := p }, response := answer 0, effects := [.armTimer p] }

/-- The end of the ramp (40_state_machine.md section 3; the saturation is D16): the update whose step brings the
period to or below the threshold enters `On`, seeds `Vsys` from `Vbatt`, clears `ManualFlag` and sets the idle
duty; the `On` branch does not run in it, the bucket and the fault flag stand, and where the ramp's invariant holds
they are full and 0. -/
def Obligations.UpdateEndsRamp : Prop :=
  ∀ s : State, s.runState = .rampUp →
    s.period.toNat - s.cfg.rampStep.toNat ≤ s.cfg.highSpeedThreshold.toNat →
    ∃ p : Word, p.toNat = s.period.toNat - s.cfg.rampStep.toNat ∧
      exec .update s = .next { s with
        runState := .on, vsys := s.vbatt, manualFlag := false, duty := s.cfg.idleDuty, period := p
        shadow := { s.shadow with timerPeriod := p }, response := answer 0, effects := [.armTimer p] } ∧
      (s.RampInv → s.bucket = s.cfg.bucketCapacity ∧ s.faultFlag = false)

/-- `UPDATE` in `On`: average, bucket, latch, force, correct, in this order, each reading what the one before
left, then the timer re-armed (40_state_machine.md section 4, 42_undervoltage.md, 41_timing_correction.md; D7,
D15, D30, D32). -/
def Obligations.UpdateInOnRunsItsSteps : Prop :=
  ∀ s : State, s.runState = .on →
    ∃ vsys bucket duty period : Word, ∃ fault : Bool,
      vsys.toNat = (s.vsys.toNat + s.vbatt.toNat) / 2 ∧
      (vsys.toNat < s.cfg.vShutdownThreshold.toNat → bucket.toNat = s.bucket.toNat - 1) ∧
      (s.cfg.vShutdownThreshold.toNat ≤ vsys.toNat →
        (s.bucket.toNat < s.cfg.bucketCapacity.toNat → bucket.toNat = s.bucket.toNat + 1) ∧
        (s.cfg.bucketCapacity.toNat ≤ s.bucket.toNat → bucket = s.bucket)) ∧
      fault = (s.faultFlag || decide (bucket.toNat = 0)) ∧
      duty = (if fault then 0 else s.duty) ∧
      (s.manualFlag = true ∨ s.cfg.tableLen ≤ duty.toNat → period = s.period) ∧
      (s.manualFlag = false → ∀ e, s.cfg.tct[duty.toNat]? = some e →
        (s.period.toNat < e.toNat → period.toNat = s.period.toNat + 1) ∧
        (e.toNat < s.period.toNat → period.toNat = s.period.toNat - 1) ∧
        (s.period = e → period = s.period)) ∧
      exec .update s = .next { s with
        vsys := vsys, bucket := bucket, faultFlag := fault, duty := duty, period := period
        shadow := { s.shadow with timerPeriod := period }
        response := answer 0
        effects := [.armTimer period] }

/-- R106: every `UPDATE`, in every branch, emits exactly one effect word, `ARM_TIMER` with the period the branch
left; the manual steps do not re-arm, and their period reaches the timer at the next `UPDATE`. -/
def Obligations.UpdateRearmsTimerOnce : Prop :=
  (∀ s : State, ∃ t, exec .update s = .next t ∧ t.effects = [.armTimer t.period] ∧
    t.shadow = { s.shadow with timerPeriod := t.period }) ∧
  ∀ (i : Instr) (s : State), i = .manSpdInc ∨ i = .manSpdDec →
    ∃ t, exec i s = .next t ∧ t.effects = [] ∧ t.shadow = s.shadow ∧
      (s.runState = .on → ∃ u, exec .update t = .next u ∧ u.shadow.timerPeriod = t.period)

/-- The averaged voltage is the floor of the mean, lies between the old average and the estimate, and stands at
the estimate (42_undervoltage.md, the average; D15). -/
def Obligations.VoltageAverageMovesTowardEstimate : Prop :=
  ∀ s : State, s.runState = .on → ∃ t, exec .update s = .next t ∧
    t.vsys.toNat = (s.vsys.toNat + s.vbatt.toNat) / 2 ∧
    (s.vsys.toNat ≤ s.vbatt.toNat → s.vsys.toNat ≤ t.vsys.toNat ∧ t.vsys.toNat ≤ s.vbatt.toNat) ∧
    (s.vbatt.toNat ≤ s.vsys.toNat → s.vbatt.toNat ≤ t.vsys.toNat ∧ t.vsys.toNat ≤ s.vsys.toNat) ∧
    (s.vbatt.toNat = s.vsys.toNat + 1 → t.vsys = s.vsys) ∧
    (s.vsys.toNat = s.vbatt.toNat + 1 → t.vsys = s.vbatt)

/-- R132: with the average of this same update strictly below the threshold the bucket loses one, with the floor
at 0; otherwise it gains one, capped at its capacity; it stays within its capacity. -/
def Obligations.BucketMovesByOne : Prop :=
  ∀ s : State, s.runState = .on → s.bucket.toNat ≤ s.cfg.bucketCapacity.toNat →
    ∃ t, exec .update s = .next t ∧
      (t.vsys.toNat < s.cfg.vShutdownThreshold.toNat → t.bucket.toNat = s.bucket.toNat - 1) ∧
      (s.cfg.vShutdownThreshold.toNat ≤ t.vsys.toNat →
        t.bucket.toNat = min (s.bucket.toNat + 1) s.cfg.bucketCapacity.toNat) ∧
      t.bucket.toNat ≤ s.cfg.bucketCapacity.toNat

/-- R211: only `UPDATE`, only in `On`, only with an empty bucket after the bucket step, raises the fault, and what
it records is one bit: the run state, the sector, the counters and the samples stand. -/
def Obligations.FaultRaisedOnlyByUpdateInOn : Prop :=
  ∀ (i : Instr) (s t : State), exec i s = .next t → s.faultFlag = false → t.faultFlag = true →
    i = .update ∧ s.runState = .on ∧ t.bucket = 0 ∧ t.runState = .on ∧ t.sector = s.sector ∧
      t.tickCounter = s.tickCounter ∧ t.prevSector = s.prevSector ∧ t.vbatt = s.vbatt ∧ t.work = s.work ∧
      t.qual = s.qual ∧ t.zcIntegral = s.zcIntegral ∧ t.manualFlag = s.manualFlag ∧ t.startReq = s.startReq

/-- The latch (42_undervoltage.md, the latch and the life of a fault; D7): nothing but an `UPDATE` in `Off`, or
reset, ends a fault. -/
def Obligations.FaultEndsOnlyByUpdateInOff : Prop :=
  (∀ (i : Instr) (s t : State), exec i s = .next t → s.faultFlag = true → t.faultFlag = false →
    i = .update ∧ s.runState = .off) ∧
  ∀ s : State, s.runState = .off → ∃ t, exec .update s = .next t ∧ t.faultFlag = false

/-- R134: an `UPDATE` in `On` that finds or sets the flag leaves `Duty = 0`, and with an empty bucket it always
does; the new duty reaches no phase in that update: no output but the timer's period changes. -/
def Obligations.FaultForcesDutyZero : Prop :=
  ∀ s : State, s.runState = .on → ∃ t, exec .update s = .next t ∧
    t.duty = (if t.faultFlag then 0 else s.duty) ∧
    (t.bucket = 0 → t.faultFlag = true ∧ t.duty = 0) ∧
    t.shadow.pwmDuty = s.shadow.pwmDuty ∧ t.shadow.outMode = s.shadow.outMode ∧
    t.shadow.hbEn = s.shadow.hbEn ∧ t.shadow.masterEn = s.shadow.masterEn

/-- R123: in manual mode, and with a duty outside the table (always, when the table is empty), no entry is read
and `Period` stands; `UPDATE` goes on to arm the timer with it. That no entry is read is said by the result being
the same under any table as long. -/
def Obligations.LookupSkipped : Prop :=
  ∀ s : State, s.runState = .on → ∃ t, exec .update s = .next t ∧
    (s.manualFlag = true ∨ s.cfg.tableLen ≤ t.duty.toNat ∨ s.cfg.tableLen = 0 →
      t.period = s.period ∧ t.effects = [.armTimer s.period] ∧
      ∀ l : List Word, l.length = s.cfg.tct.length →
        exec .update { s with cfg := { s.cfg with tct := l } } =
          .next { t with cfg := { s.cfg with tct := l } })

/-- R120: with the manual flag clear and the duty (as the fault force left it) inside the table, `Period` moves by
the sign of the error and never by more; otherwise it stands; in `Off` and `RampUp` no lookup is made, so the
result is the same under any table. -/
def Obligations.TimingCorrectionStepsPeriod : Prop :=
  (∀ s : State, s.runState = .on → ∃ t, exec .update s = .next t ∧
    (∀ e, s.manualFlag = false → s.cfg.tct[t.duty.toNat]? = some e →
      (s.period.toNat < e.toNat → t.period.toNat = s.period.toNat + 1) ∧
      (e.toNat < s.period.toNat → t.period.toNat + 1 = s.period.toNat) ∧
      (s.period = e → t.period = s.period)) ∧
    (s.manualFlag = true ∨ s.cfg.tableLen ≤ t.duty.toNat → t.period = s.period)) ∧
  ∀ s : State, s.runState ≠ .on → ∃ t, exec .update s = .next t ∧
    ∀ l : List Word, exec .update { s with cfg := { s.cfg with tct := l } } =
      .next { t with cfg := { s.cfg with tct := l } }

/-- The length of the ramp (40_state_machine.md section 3, R108 as the spec derives it; D5). After a start
accepted in `Off`, with no stop among the operations, whatever else comes between, the `k`-th `UPDATE` leaves
`RampUp`, the ramp duty and the period `k` steps down for every `k` before the ramp's length, and `On`, the idle
duty and the last period at that length. -/
def Obligations.RampTakesItsLengthInUpdates : Prop :=
  ∀ (s : State) (ops : List Instr), s.cfg.legal = true → s.runState = .off → s.startReq = true →
    (∀ i ∈ ops, i.stops s.cfg = false) → updates ops + 1 ≤ rampLength s.cfg →
    ∃ t, runOps (ops ++ [.update]) s = .next t ∧
      t.period.toNat = s.cfg.lowSpeedPeriod.toNat - (updates ops + 1) * s.cfg.rampStep.toNat ∧
      (updates ops + 1 < rampLength s.cfg → t.runState = .rampUp ∧ t.duty = s.cfg.rampDuty) ∧
      (updates ops + 1 = rampLength s.cfg → t.runState = .on ∧ t.duty = s.cfg.idleDuty)

/-- All transitions of `RunState` (40_state_machine.md section 6). Where the first ramp step of a start already
ends the ramp, that one `UPDATE` goes from `Off` through `RampUp` to `On` (log entry 17). -/
def Obligations.RunStateTransitions : Prop :=
  ∀ (i : Instr) (s t : State), exec i s = .next t → t.runState ≠ s.runState →
    (i = .update ∧ s.runState = .off ∧ s.startReq = true ∧ t.runState = .rampUp) ∨
    (i = .update ∧ s.runState = .off ∧ s.startReq = true ∧ t.runState = .on ∧
      s.cfg.lowSpeedPeriod.toNat - s.cfg.rampStep.toNat ≤ s.cfg.highSpeedThreshold.toNat) ∨
    (i = .update ∧ s.runState = .rampUp ∧ t.runState = .on ∧
      s.period.toNat - s.cfg.rampStep.toNat ≤ s.cfg.highSpeedThreshold.toNat) ∨
    (i.stops s.cfg = true ∧ t.runState = .off)

/-! ## TICK -/

/-- `TICK` in `Off` (44_bemf_sampler.md, the idle path; the counter is stepped there too by D14, `PrevSector`
becomes `NONE` by D9, the order of the words is D11). -/
def Obligations.TickInOffAssertsPosture : Prop :=
  ∀ (s : State) (arg : Word), s.runState = .off →
    exec (.tick arg) s = .next { s with
      tickCounter := s.tickCounter + 1
      prevSector := none
      shadow := { s.shadow with hbEn := ⟨false, false, false⟩, masterEn := false }
      response := answer 0
      effects := [.hbEnable .a false, .hbEnable .b false, .hbEnable .c false, .masterEnable false] }

/-- A running `TICK` before the fourth slot stores the referenced sample in its slot and, when the master switch
is off, turns it on first; nothing else (44_bemf_sampler.md, the slot write and leaving the posture; D10, D13). -/
def Obligations.TickStoresSample : Prop :=
  ∀ (s : State) (arg : Word), s.cfg.legal = true → s.running → s.tickCounter ≠ 3 →
    ∃ d : Word, d.toInt = ((arg.toNat % 2 ^ s.cfg.adcW : Nat) : Int) - (s.cfg.halfBusRef.toNat : Int) ∧
      exec (.tick arg) s = .next { s with
        tickCounter := s.tickCounter + 1
        work := s.work.set s.tickCounter d
        shadow := { s.shadow with masterEn := true }
        response := answer 0
        effects := if s.shadow.masterEn then [] else [.masterEnable true] }

/-- A running `TICK` at the fourth slot: the sample, the qualification, the switch and the sector advance
(44_bemf_sampler.md; 43_phase_switching.md, `switch_to`; D9, D10, D11, D13). -/
def Obligations.TickEndsSector : Prop :=
  ∀ (s : State) (arg : Word), s.cfg.legal = true → s.running → s.tickCounter = 3 →
    ∃ d raw zc : Word, ∃ words : List Effect,
      raw.toNat = arg.toNat % 2 ^ s.cfg.adcW ∧
      d.toInt = (raw.toNat : Int) - (s.cfg.halfBusRef.toNat : Int) ∧
      zc = u16 (s.work.s1.toInt + s.work.s2.toInt) ∧
      words = (if s.shadow.masterEn then [] else [.masterEnable true]) ++
        switchWords s.duty s.prevRow (s.cfg.pt.row (s.sector + 1)) ∧
      exec (.tick arg) s = .next { s with
        tickCounter := 0
        work := { s.work with s3 := d }
        qual := if (s.cfg.pt.row s.sector).a = .floatFalling then { s.work with s3 := d } else s.qual
        zcIntegral := if (s.cfg.pt.row s.sector).a = .floatFalling then zc else s.zcIntegral
        vbatt := if (s.cfg.pt.row s.sector).a = .drivenHigh then raw else s.vbatt
        sector := s.sector + 1
        prevSector := some (s.sector + 1)
        shadow := s.shadow.applyAll words
        response := answer 0
        effects := words }

/-- At the fourth slot phase A's drive state in the sector just completed decides what is kept: the whole window
and the exact sum of its two middle samples, or the raw value, the low `ADC_W` bits of the operand (D13), as the
battery estimate, or nothing (44_bemf_sampler.md). Under `PT_STD`, which is general knowledge (G1; log entry 14,
PRESUMED), these are the ends of sector 2, of sectors 0 and 1, and of sectors 3, 4 and 5. -/
def Obligations.FourthSlotQualifies : Prop :=
  (∀ (s : State) (arg : Word), s.Inv → s.running → s.tickCounter = 3 →
    ∃ t, exec (.tick arg) s = .next t ∧
      ((s.cfg.pt.row s.sector).a = .floatFalling →
        t.qual = t.work ∧ t.zcIntegral.toInt = t.qual.s1.toInt + t.qual.s2.toInt ∧ t.vbatt = s.vbatt) ∧
      ((s.cfg.pt.row s.sector).a = .drivenHigh →
        t.vbatt.toNat = arg.toNat % 2 ^ s.cfg.adcW ∧ t.qual = s.qual ∧ t.zcIntegral = s.zcIntegral) ∧
      ((s.cfg.pt.row s.sector).a = .drivenLow ∨ (s.cfg.pt.row s.sector).a = .floatRising →
        t.vbatt = s.vbatt ∧ t.qual = s.qual ∧ t.zcIntegral = s.zcIntegral)) ∧
  ∀ n : Fin 6,
    ((PhaseTable.std.row n).a = .floatFalling ↔ n = 2) ∧
    ((PhaseTable.std.row n).a = .drivenHigh ↔ n = 0 ∨ n = 1) ∧
    ((PhaseTable.std.row n).a = .drivenLow ∨ (PhaseTable.std.row n).a = .floatRising ↔
      n = 3 ∨ n = 4 ∨ n = 5)

/-- R165: the fourth slot of a running `TICK` switches to the next sector, modulo 6, with the duty and the
previous sector it finds, and advances to it; nothing else changes `Sector`, and after any number of ticks that is
a multiple of 4 the sector has advanced by a quarter of it, from any starting sector. -/
def Obligations.SectorAdvancesModSix : Prop :=
  (∀ (s : State) (arg : Word), s.running → s.tickCounter = 3 →
    ∃ t, exec (.tick arg) s = .next t ∧ t.sector.val = (s.sector.val + 1) % 6 ∧
      t.prevSector = some t.sector ∧
      ∃ first, (first = [] ∨ first = [.masterEnable true]) ∧
        t.effects = first ++ switchWords s.duty s.prevRow (s.cfg.pt.row t.sector)) ∧
  (∀ (i : Instr) (s t : State), exec i s = .next t → t.sector ≠ s.sector →
    (∃ arg, i = .tick arg) ∧ s.running ∧ s.tickCounter = 3) ∧
  ∀ (args : List Word) (k : Nat) (s : State), args.length = 4 * k → s.running →
    ∃ t, runOps (args.map .tick) s = .next t ∧ t.sector.val = (s.sector.val + k) % 6 ∧
      t.tickCounter = s.tickCounter

/-! ## switch_to -/

/-- R143, step 2: exactly the phases that were driven high and are entering a floating state have their PWM
disabled, before any other word of the switch; a phase going from high to low gets no disable, its PWM is displaced
by the low output. -/
def Obligations.LeavingHighDisablesPwmFirst : Prop :=
  ∀ (duty : Word) (prev next : PerPhase DriveState),
    (∀ p, Effect.pwmDisable p ∈ switchWords duty prev next ↔
      prev.get p = .drivenHigh ∧ (next.get p).isFloat = true) ∧
    (∃ first rest, switchWords duty prev next = first ++ rest ∧
      (∀ e ∈ first, ∃ p, e = .pwmDisable p) ∧ ∀ p, Effect.pwmDisable p ∉ rest) ∧
    ∀ (h : Shadow) (p : Phase), prev.get p = .drivenHigh → next.get p = .drivenLow →
      Effect.outputLow p ∈ switchWords duty prev next ∧
        (h.applyAll (switchWords duty prev next)).outMode.get p = .low

/-- R144, step 3: exactly the phases newly floating have their half-bridge released, and under a legal row at most
one phase is. -/
def Obligations.NewlyFloatingIsReleased : Prop :=
  ∀ (duty : Word) (prev next : PerPhase DriveState),
    (∀ p, Effect.hbEnable p false ∈ switchWords duty prev next ↔
      (next.get p).isFloat = true ∧ (prev.get p).isFloat = false) ∧
    (next.legal = true → ∀ p q, Effect.hbEnable p false ∈ switchWords duty prev next →
      Effect.hbEnable q false ∈ switchWords duty prev next → p = q)

/-- R153, step 4: exactly the phases newly driven low get the low output, and directly after it the half-bridge
enable; under a legal row at most one phase does. -/
def Obligations.NewlyLowIsAssertedThenEnabled : Prop :=
  ∀ (duty : Word) (prev next : PerPhase DriveState),
    (∀ p, Effect.outputLow p ∈ switchWords duty prev next ↔
      next.get p = .drivenLow ∧ prev.get p ≠ .drivenLow) ∧
    (∀ p, Effect.outputLow p ∈ switchWords duty prev next →
      [Effect.outputLow p, .hbEnable p true] <:+: switchWords duty prev next) ∧
    (next.legal = true → ∀ p q, Effect.outputLow p ∈ switchWords duty prev next →
      Effect.outputLow q ∈ switchWords duty prev next → p = q)

/-- R145, step 5: exactly the phases newly driven high get the PWM enable with the current duty, and directly after
it the half-bridge enable; under a legal row at most one phase does; a phase that stays driven high gets no word
and keeps its older duty; and a `TICK` at the fourth slot gives the duty it finds to the phase newly driven high
and to no other. -/
def Obligations.NewlyHighGetsCurrentDuty : Prop :=
  ∀ (duty : Word) (prev next : PerPhase DriveState),
    (∀ p d, Effect.pwmEnable p d ∈ switchWords duty prev next ↔
      next.get p = .drivenHigh ∧ prev.get p ≠ .drivenHigh ∧ d = duty) ∧
    (∀ p d, Effect.pwmEnable p d ∈ switchWords duty prev next →
      [Effect.pwmEnable p d, .hbEnable p true] <:+: switchWords duty prev next) ∧
    (next.legal = true → ∀ p q d e, Effect.pwmEnable p d ∈ switchWords duty prev next →
      Effect.pwmEnable q e ∈ switchWords duty prev next → p = q) ∧
    (∀ (h : Shadow) (p : Phase), prev.get p = .drivenHigh → next.get p = .drivenHigh →
      (h.applyAll (switchWords duty prev next)).pwmDuty.get p = h.pwmDuty.get p ∧
        (h.applyAll (switchWords duty prev next)).outMode.get p = h.outMode.get p ∧
        (h.applyAll (switchWords duty prev next)).hbEn.get p = h.hbEn.get p) ∧
    ∀ (s : State) (arg : Word), s.running → s.tickCounter = 3 →
      ∃ t, exec (.tick arg) s = .next t ∧
        ∀ p, t.shadow.pwmDuty.get p =
          if (s.cfg.pt.row (s.sector + 1)).get p = .drivenHigh ∧ s.prevRow.get p ≠ .drivenHigh then s.duty
          else s.shadow.pwmDuty.get p

/-- How long an effect list can be (43_phase_switching.md section 2, R154(c) as the spec derives it): under any
legal table a switch from a sector emits at most 6 words and one from `NONE` exactly 5, so a `TICK` emits at most
7. -/
def Obligations.SwitchEmitsFewWords : Prop :=
  ∀ (s : State) (arg : Word), s.cfg.legal = true →
    (∀ n m, (switchWords s.duty (s.cfg.pt.row n) (s.cfg.pt.row m)).length ≤ 6) ∧
    (∀ m, (switchWords s.duty (everyPhase .off) (s.cfg.pt.row m)).length = 5) ∧
    ∃ t, exec (.tick arg) s = .next t ∧ t.effects.length ≤ 7

/-- The twelve lists of 43_phase_switching.md section 2 under `PT_STD` (general knowledge, G1). -/
def Obligations.SwitchListsUnderStandardTable : Prop :=
  let row := PhaseTable.std.row
  let off : PerPhase DriveState := everyPhase .off
  ∀ d : Word,
    switchWords d (row 0) (row 1) = [.hbEnable .b false, .outputLow .c, .hbEnable .c true] ∧
    switchWords d (row 1) (row 2) =
      [.pwmDisable .a, .hbEnable .a false, .pwmEnable .b d, .hbEnable .b true] ∧
    switchWords d (row 2) (row 3) = [.hbEnable .c false, .outputLow .a, .hbEnable .a true] ∧
    switchWords d (row 3) (row 4) =
      [.pwmDisable .b, .hbEnable .b false, .pwmEnable .c d, .hbEnable .c true] ∧
    switchWords d (row 4) (row 5) = [.hbEnable .a false, .outputLow .b, .hbEnable .b true] ∧
    switchWords d (row 5) (row 0) =
      [.pwmDisable .c, .hbEnable .c false, .pwmEnable .a d, .hbEnable .a true] ∧
    switchWords d off (row 0) =
      [.hbEnable .c false, .outputLow .b, .hbEnable .b true, .pwmEnable .a d, .hbEnable .a true] ∧
    switchWords d off (row 1) =
      [.hbEnable .b false, .outputLow .c, .hbEnable .c true, .pwmEnable .a d, .hbEnable .a true] ∧
    switchWords d off (row 2) =
      [.hbEnable .a false, .outputLow .c, .hbEnable .c true, .pwmEnable .b d, .hbEnable .b true] ∧
    switchWords d off (row 3) =
      [.hbEnable .c false, .outputLow .a, .hbEnable .a true, .pwmEnable .b d, .hbEnable .b true] ∧
    switchWords d off (row 4) =
      [.hbEnable .b false, .outputLow .a, .hbEnable .a true, .pwmEnable .c d, .hbEnable .c true] ∧
    switchWords d off (row 5) =
      [.hbEnable .a false, .outputLow .b, .hbEnable .b true, .pwmEnable .c d, .hbEnable .c true]

/-! ## Effect words and outputs -/

/-- The six effect words, each carried out alone: what it writes in the shadows and nothing else
(43_phase_switching.md section 3, D12; that a word can be run alone is the model's choice, log entry 4). -/
def Obligations.EffectWordsWriteTheirShadow : Prop :=
  ∀ (s : State) (p : Phase) (v : Word) (on : Bool),
    exec (.pwmEnable p v) s = .next { s with
      shadow := { s.shadow with
        outMode := s.shadow.outMode.set p .pwm, pwmDuty := s.shadow.pwmDuty.set p v }
      response := none, effects := [.pwmEnable p v] } ∧
    exec (.pwmDisable p) s = .next { s with
      shadow := { s.shadow with outMode := s.shadow.outMode.set p .idle }
      response := none, effects := [.pwmDisable p] } ∧
    exec (.outputLow p) s = .next { s with
      shadow := { s.shadow with outMode := s.shadow.outMode.set p .low }
      response := none, effects := [.outputLow p] } ∧
    exec (.hbEnable p on) s = .next { s with
      shadow := { s.shadow with hbEn := s.shadow.hbEn.set p on }
      response := none, effects := [.hbEnable p on] } ∧
    exec (.masterEnable on) s = .next { s with
      shadow := { s.shadow with masterEn := on }
      response := none, effects := [.masterEnable on] } ∧
    exec (.armTimer v) s = .next { s with
      shadow := { s.shadow with timerPeriod := v }
      response := none, effects := [.armTimer v] }

/-- The shadows after any instruction are those before it with the emitted words written to them one by one in
order, so they equal what was sent; a read, a command or a reserved word emits none, and of the operations only
`UPDATE` arms the timer (70_reset_and_hazards.md sections 1 and 2). -/
def Obligations.ShadowsFollowTheEmittedWords : Prop :=
  ∀ (i : Instr) (s t : State), exec i s = .next t →
    t.shadow = s.shadow.applyAll t.effects ∧
    (i.isEvent = true → i ≠ .update → (∀ arg, i ≠ .tick arg) → t.effects = [] ∧ t.shadow = s.shadow) ∧
    (i.isEvent = true → ∀ period, Effect.armTimer period ∈ t.effects → i = .update)

/-- The outputs agree with `PrevSector` after every step, from any state in which they do
(43_phase_switching.md section 2, R154(a) as the spec derives it; D9, D10). -/
def Obligations.StepKeepsOutputsMatched : Prop :=
  ∀ s t : State, s.OutputsMatch → step s = .next t → t.OutputsMatch

/-- Right after reset, under every configuration, the outputs agree with `PrevSector`, and they are those bring-up
leaves in the drivers (70_reset_and_hazards.md section 1). -/
def Obligations.OutputsMatchAtReset : Prop :=
  ∀ c : Cfg, (State.resetWith c).OutputsMatch ∧ (State.resetWith c).shadow.broughtUp

/-- At every point inside the effect list of every operation at most one phase has its PWM reaching the bridge,
and before the list and at its end at most one phase drives low, with a sector configured or none, from any state
whose outputs agree with `PrevSector` (43_phase_switching.md section 2, R154(b) as the spec derives it; stated over
every prefix as 70_reset_and_hazards.md section 2 asks). -/
def Obligations.NeverTwoPhasesHigh : Prop :=
  ∀ (i : Instr) (s t : State), s.cfg.legal = true → s.OutputsMatch →
    i.isEvent = true → exec i s = .next t →
    (∀ l, l <+: t.effects → (s.shadow.applyAll l).oneHighAtMost) ∧
    s.shadow.oneLowAtMost ∧ t.shadow.oneLowAtMost

/-- After a switch exactly one phase drives high, exactly one drives low and the third is non-conducting, as the
row of the new sector says (43_phase_switching.md section 2, R154(a) as the spec derives it, and R155, D12). -/
def Obligations.SwitchDrivesOneHighOneLow : Prop :=
  ∀ (s : State) (arg : Word), s.cfg.legal = true → s.OutputsMatch → s.running → s.tickCounter = 3 →
    ∃ t, exec (.tick arg) s = .next t ∧
      t.shadow.configuredFor (s.cfg.pt.row t.sector) ∧
      ∃ x y z : Phase, x ≠ y ∧ y ≠ z ∧ x ≠ z ∧
        t.shadow.drivesHigh x = true ∧ t.shadow.drivesLow y = true ∧ t.shadow.nonConducting z = true ∧
        (s.cfg.pt.row t.sector).get x = .drivenHigh ∧ (s.cfg.pt.row t.sector).get y = .drivenLow

/-! ## Invariants -/

/-- The invariants of 10_state.md section 7 (R43, as the spec derives them) and those of the ramp are kept by
every step, from any state in which they hold. -/
def Obligations.StepKeepsInvariants : Prop :=
  ∀ s t : State, s.Inv → s.RampInv → step s = .next t → t.Inv ∧ t.RampInv

/-- The invariants hold right after reset, under every legal configuration. -/
def Obligations.InvariantsAtReset : Prop :=
  ∀ c : Cfg, c.legal = true → (State.resetWith c).Inv ∧ (State.resetWith c).RampInv

/-- Which operation may write which register (60_exceptions.md section 5, R222 as the spec derives it). Effect
words carried out alone are left out: they are not operations (log entry 4). -/
def Obligations.RegistersHaveTheirWriters : Prop :=
  ∀ (i : Instr) (s t : State), i.isEvent = true → exec i s = .next t →
    ((∀ arg, i ≠ .tick arg) →
      t.sector = s.sector ∧ t.tickCounter = s.tickCounter ∧ t.prevSector = s.prevSector ∧
      t.work = s.work ∧ t.qual = s.qual ∧ t.zcIntegral = s.zcIntegral ∧ t.vbatt = s.vbatt ∧
      t.shadow.outMode = s.shadow.outMode ∧ t.shadow.pwmDuty = s.shadow.pwmDuty ∧
      t.shadow.hbEn = s.shadow.hbEn ∧ t.shadow.masterEn = s.shadow.masterEn) ∧
    (i ≠ .update →
      t.vsys = s.vsys ∧ t.bucket = s.bucket ∧ t.faultFlag = s.faultFlag ∧
      t.shadow.timerPeriod = s.shadow.timerPeriod) ∧
    (i ≠ .update → i.stops s.cfg = false → t.runState = s.runState) ∧
    (i ≠ .update → i ≠ .dutyInc → i ≠ .dutyDec → (∀ c, i ≠ .setCmdDuty c) → t.duty = s.duty) ∧
    (i ≠ .update → i ≠ .manSpdInc → i ≠ .manSpdDec →
      t.period = s.period ∧ t.manualFlag = s.manualFlag) ∧
    (i ≠ .update → i ≠ .startRamp → i ≠ .stop → i ≠ .manSpdInc → (∀ c, i ≠ .setCmdDuty c) →
      t.startReq = s.startReq)

/-! ## The control surface and the duty controller -/

/-- `START_RAMP` only requests, and only in `Off` (46_control_surface.md section 1, D5, D29). -/
def Obligations.StartRampOnlyRequests : Prop :=
  ∀ s : State,
    (s.runState = .off →
      exec .startRamp s = .next { s with startReq := true, response := answer 0, effects := [] }) ∧
    (s.running → exec .startRamp s = .next { s with response := answer 0, effects := [] })

/-- `STOP` (46_control_surface.md section 1, D6) makes the run state `Off`, drops a pending start and changes
nothing else, from any state; the next `TICK` emits the idle posture, and the next `UPDATE` resets the period, the
bucket and the fault flag. -/
def Obligations.StopIsImmediate : Prop :=
  ∀ s : State,
    exec .stop s = .next
      { s with runState := .off, startReq := false, response := answer 0, effects := [] } ∧
    ∀ t, exec .stop s = .next t →
      (∀ arg, ∃ u, exec (.tick arg) t = .next u ∧ u.shadow.idlePosture ∧
        u.effects = [.hbEnable .a false, .hbEnable .b false, .hbEnable .c false, .masterEnable false]) ∧
      ∃ u, exec .update t = .next u ∧ u.runState = .off ∧ u.period = s.cfg.lowSpeedPeriod ∧
        u.bucket = s.cfg.bucketCapacity ∧ u.faultFlag = false

/-- The regions of `SET_CMD_DUTY` (45_duty_controller.md, D18, D33): above the start threshold it requests a start
in `Off`, moves the duty one unit toward `c` within the guard in `On`, and does nothing in `RampUp`; below the stop
threshold it stops; in the dead band it does nothing. -/
def Obligations.SetCmdDutyRegions : Prop :=
  ∀ (s : State) (c : Word), s.cfg.legal = true →
    (s.cfg.cmdStartThreshold.toNat < c.toNat →
      (s.runState = .off → exec (.setCmdDuty c) s =
        .next { s with startReq := true, response := answer 0, effects := [] }) ∧
      (s.runState = .rampUp → exec (.setCmdDuty c) s =
        .next { s with response := answer 0, effects := [] }) ∧
      (s.runState = .on → ∃ d : Word,
        (s.duty.toNat < c.toNat →
          (s.duty.toNat < s.cfg.dutyGuard.toNat → d.toNat = s.duty.toNat + 1) ∧
          (s.cfg.dutyGuard.toNat ≤ s.duty.toNat → d = s.duty)) ∧
        (c.toNat < s.duty.toNat → d.toNat + 1 = s.duty.toNat) ∧
        (s.duty = c → d = s.duty) ∧
        exec (.setCmdDuty c) s = .next { s with duty := d, response := answer 0, effects := [] })) ∧
    (c.toNat < s.cfg.cmdStopThreshold.toNat → exec (.setCmdDuty c) s =
      .next { s with runState := .off, startReq := false, response := answer 0, effects := [] }) ∧
    (s.cfg.cmdStopThreshold.toNat ≤ c.toNat → c.toNat ≤ s.cfg.cmdStartThreshold.toNat →
      exec (.setCmdDuty c) s = .next { s with response := answer 0, effects := [] })

/-- The manual speed steps (46_control_surface.md section 2, D16, D17): in `On` they set `ManualFlag` and move the
period by `MANUAL_STEP`, saturating; in `Off` the increase requests a start; everything else stands. -/
def Obligations.ManualStepsBiasPeriod : Prop :=
  ∀ s : State,
    (s.runState = .off →
      exec .manSpdInc s = .next { s with startReq := true, response := answer 0, effects := [] } ∧
      exec .manSpdDec s = .next { s with response := answer 0, effects := [] }) ∧
    (s.runState = .rampUp →
      exec .manSpdInc s = .next { s with response := answer 0, effects := [] } ∧
      exec .manSpdDec s = .next { s with response := answer 0, effects := [] }) ∧
    (s.runState = .on → ∃ faster slower : Word,
      faster.toNat = s.period.toNat - s.cfg.manualStep.toNat ∧
      slower.toNat = min (s.period.toNat + s.cfg.manualStep.toNat) 65535 ∧
      exec .manSpdInc s = .next
        { s with manualFlag := true, period := faster, response := answer 0, effects := [] } ∧
      exec .manSpdDec s = .next
        { s with manualFlag := true, period := slower, response := answer 0, effects := [] })

/-- `DUTY_INC` and `DUTY_DEC` in every run state, clamped at the guard and at 0 (45_duty_controller.md, D19, D33). -/
def Obligations.DutyStepsAreClamped : Prop :=
  ∀ s : State, ∃ up down : Word,
    up.toNat = (if s.duty.toNat < s.cfg.dutyGuard.toNat then s.duty.toNat + 1 else s.duty.toNat) ∧
    down.toNat = s.duty.toNat - 1 ∧
    exec .dutyInc s = .next { s with duty := up, response := answer 0, effects := [] } ∧
    exec .dutyDec s = .next { s with duty := down, response := answer 0, effects := [] }

/-- No sequence of operations brings the duty above the guard, and a step up and a step down undo each other away
from the bounds (45_duty_controller.md, R183 as the spec derives it). -/
def Obligations.DutyNeverPassesGuard : Prop :=
  (∀ (ops : List Instr) (s t : State), s.cfg.legal = true → s.duty.toNat ≤ s.cfg.dutyGuard.toNat →
    runOps ops s = .next t → t.duty.toNat ≤ s.cfg.dutyGuard.toNat) ∧
  (∀ s : State, s.duty.toNat ≤ s.cfg.dutyGuard.toNat → ∃ t, runOps [.dutyInc, .dutyDec] s = .next t ∧
    (s.duty.toNat < s.cfg.dutyGuard.toNat → t.duty = s.duty) ∧
    (s.duty = s.cfg.dutyGuard → t.duty.toNat = s.cfg.dutyGuard.toNat - 1)) ∧
  ∀ s : State, s.duty.toNat ≤ s.cfg.dutyGuard.toNat → ∃ t, runOps [.dutyDec, .dutyInc] s = .next t ∧
    (s.duty ≠ 0 → t.duty = s.duty) ∧
    (s.duty = 0 → 1 ≤ s.cfg.dutyGuard.toNat → t.duty = 1)

/-- R196 to R200: each read answers its register and changes no register; `GET_ZC` answers the sum of the two
middle qualified samples, read as signed. -/
def Obligations.ReadsAnswerTheirRegister : Prop :=
  ∀ s : State,
    exec .getDuty s = .next { s with response := answer s.duty, effects := [] } ∧
    exec .getPeriod s = .next { s with response := answer s.period, effects := [] } ∧
    exec .getFault s = .next
      { s with response := answer (if s.faultFlag then 1 else 0), effects := [] } ∧
    exec .getVsys s = .next { s with response := answer s.vsys, effects := [] } ∧
    exec .getZc s = .next { s with response := answer s.zcIntegral, effects := [] } ∧
    (s.Inv → s.zcIntegral.toInt = s.qual.s1.toInt + s.qual.s2.toInt)

/-- `GET_STATE`, which the spec adds (46_control_surface.md section 3, D20; the numbers are D1): it answers the run
state's number and changes no register. -/
def Obligations.GetStateAnswersRunState : Prop :=
  ∀ s : State, exec .getState s = .next { s with
    response := answer (match s.runState with | .off => 0 | .rampUp => 1 | .on => 2)
    effects := [] }

/-- The reserved code changes no register, emits nothing and answers `err = 1`, `data = 0` (30_encoding.md section
3, D21); as a response word that is bit 16 alone. -/
def Obligations.ReservedCodeIsRefused : Prop :=
  ∀ (s : State) (arg : Word),
    decode (.event (eventWord 0xF arg)) = .ok .reservedF ∧
    exec .reservedF s = .next { s with response := some ⟨true, 0⟩, effects := [] } ∧
    Response.encode ⟨true, 0⟩ = 0x10000

/-! ## The life of a fault -/

/-- Detection needs sustained sag (42_undervoltage.md, R135(a) as the spec derives it): from a full bucket no
sequence with fewer than `BUCKET_CAPACITY` updates in `On` sets the flag; through any sequence without a stop, ticks
and commands among its updates, in which every update leaves `Vsys` below the threshold, the flag is set when
`BUCKET_CAPACITY` updates have run; and updates sent back to back with both voltages below the threshold are such a
sequence. -/
def Obligations.FaultNeedsSustainedSag : Prop :=
  (∀ (ops : List Instr) (s t : State), s.bucket = s.cfg.bucketCapacity → s.faultFlag = false →
    updatesInOn ops s < s.cfg.bucketCapacity.toNat → runOps ops s = .next t → t.faultFlag = false) ∧
  (∀ (ops : List Instr) (s : State), s.runState = .on → s.bucket = s.cfg.bucketCapacity →
    (∀ i ∈ ops, i.stops s.cfg = false) → s.cfg.bucketCapacity.toNat ≤ updates ops + 1 →
    (∀ (pre : List Instr) (u : State), pre ++ [.update] <+: ops ++ [.update] →
      runOps (pre ++ [.update]) s = .next u → u.vsys.toNat < s.cfg.vShutdownThreshold.toNat) →
    ∃ t, runOps (ops ++ [.update]) s = .next t ∧
      t.runState = .on ∧ t.bucket = 0 ∧ t.faultFlag = true ∧ t.duty = 0) ∧
  ∀ s : State, s.cfg.legal = true → s.runState = .on → s.bucket = s.cfg.bucketCapacity →
    s.vsys.toNat < s.cfg.vShutdownThreshold.toNat → s.vbatt.toNat < s.cfg.vShutdownThreshold.toNat →
    ∃ t, runOps (List.replicate s.cfg.bucketCapacity.toNat .update) s = .next t ∧
      t.runState = .on ∧ t.bucket = 0 ∧ t.faultFlag = true ∧ t.duty = 0

/-- While a fault lasts (42_undervoltage.md, R135(b) and (c) as the spec states them; D7): through any sequence
without a stop the machine stays `On` and faulted, and every `UPDATE` leaves `Duty = 0`. -/
def Obligations.FaultHoldsUntilStop : Prop :=
  ∀ (ops : List Instr) (s : State), s.runState = .on → s.faultFlag = true →
    (∀ i ∈ ops, i.stops s.cfg = false) →
    ∃ t, runOps ops s = .next t ∧ t.runState = .on ∧ t.faultFlag = true ∧
      ∃ u, exec .update t = .next u ∧ u.runState = .on ∧ u.faultFlag = true ∧ u.duty = 0
end

