-- ==== Sys2Proof/Laws/Decode.lean ====
section
/-!
SUPPORT. The fields of event and effect words, once: each field of a built word is what it was built from, a word
is built from its fields, and the operands of effect words are accepted exactly when they were written by the
encoder.
-/

namespace Sys2Proof

theorem eventWord_toNat (op : BitVec 4) (arg : Word) :
    (eventWord op arg).toNat = op.toNat * 65536 + arg.toNat := by
  show (op ++ arg : BitVec (4 + 16)).toNat = _
  rw [BitVec.toNat_append, ← Nat.shiftLeft_add_eq_or_of_lt arg.isLt, Nat.shiftLeft_eq]

theorem effectWord_toNat (eop : BitVec 3) (ph : BitVec 2) (v : Word) :
    (effectWord eop ph v).toNat = eop.toNat * 262144 + ph.toNat * 65536 + v.toNat := by
  show ((eop ++ ph : BitVec (3 + 2)) ++ v : BitVec (3 + 2 + 16)).toNat = _
  rw [BitVec.toNat_append, ← Nat.shiftLeft_add_eq_or_of_lt v.isLt, Nat.shiftLeft_eq,
    BitVec.toNat_append, ← Nat.shiftLeft_add_eq_or_of_lt ph.isLt, Nat.shiftLeft_eq]
  omega

theorem toNat_field {n : Nat} (w : BitVec n) (lo len : Nat) :
    (w.extractLsb' lo len).toNat = w.toNat / 2 ^ lo % 2 ^ len := by
  rw [BitVec.extractLsb'_toNat, Nat.shiftRight_eq_div_pow]

@[simp] theorem eventWord_arg (op : BitVec 4) (arg : Word) :
    (eventWord op arg).extractLsb' 0 16 = arg := by
  apply BitVec.eq_of_toNat_eq
  rw [toNat_field, eventWord_toNat]
  omega

@[simp] theorem eventWord_op (op : BitVec 4) (arg : Word) :
    (eventWord op arg).extractLsb' 16 4 = op := by
  apply BitVec.eq_of_toNat_eq
  rw [toNat_field, eventWord_toNat]
  omega

@[simp] theorem effectWord_val (eop : BitVec 3) (ph : BitVec 2) (v : Word) :
    (effectWord eop ph v).extractLsb' 0 16 = v := by
  apply BitVec.eq_of_toNat_eq
  rw [toNat_field, effectWord_toNat]
  omega

@[simp] theorem effectWord_ph (eop : BitVec 3) (ph : BitVec 2) (v : Word) :
    (effectWord eop ph v).extractLsb' 16 2 = ph := by
  apply BitVec.eq_of_toNat_eq
  rw [toNat_field, effectWord_toNat]
  omega

@[simp] theorem effectWord_eop (eop : BitVec 3) (ph : BitVec 2) (v : Word) :
    (effectWord eop ph v).extractLsb' 18 3 = eop := by
  apply BitVec.eq_of_toNat_eq
  rw [toNat_field, effectWord_toNat]
  omega

theorem eventWord_fields (w : EventWord) :
    w = eventWord (w.extractLsb' 16 4) (w.extractLsb' 0 16) := by
  apply BitVec.eq_of_toNat_eq
  rw [eventWord_toNat, toNat_field, toNat_field]
  omega

theorem effectWord_fields (w : EffectWord) :
    w = effectWord (w.extractLsb' 18 3) (w.extractLsb' 16 2) (w.extractLsb' 0 16) := by
  apply BitVec.eq_of_toNat_eq
  rw [effectWord_toNat, toNat_field, toNat_field, toNat_field]
  omega

theorem and_append {n m : Nat} (a c : BitVec n) (b d : BitVec m) :
    (a ++ b) &&& (c ++ d) = (a &&& c) ++ (b &&& d) := by
  apply BitVec.eq_of_getLsbD_eq
  intro i hi
  simp only [BitVec.getLsbD_and, BitVec.getLsbD_append]
  split <;> simp

theorem eventWord_and (op op' : BitVec 4) (a a' : Word) :
    eventWord op a &&& eventWord op' a' = eventWord (op &&& op') (a &&& a') := and_append ..

theorem eventWord_inj {op op' : BitVec 4} {a a' : Word} :
    eventWord op a = eventWord op' a' ↔ op = op' ∧ a = a' := by
  constructor
  · intro h
    exact ⟨by simpa using congrArg (·.extractLsb' 16 4) h,
      by simpa using congrArg (·.extractLsb' 0 16) h⟩
  · rintro ⟨rfl, rfl⟩; rfl

theorem effectWord_inj {e e' : BitVec 3} {p p' : BitVec 2} {a a' : Word} :
    effectWord e p a = effectWord e' p' a' ↔ e = e' ∧ p = p' ∧ a = a' := by
  constructor
  · intro h
    exact ⟨by simpa using congrArg (·.extractLsb' 18 3) h,
      by simpa using congrArg (·.extractLsb' 16 2) h,
      by simpa using congrArg (·.extractLsb' 0 16) h⟩
  · rintro ⟨rfl, rfl, rfl⟩
    rfl

theorem effectWord_and (e e' : BitVec 3) (p p' : BitVec 2) (a a' : Word) :
    effectWord e p a &&& effectWord e' p' a' = effectWord (e &&& e') (p &&& p') (a &&& a') := by
  show ((e ++ p : BitVec (3 + 2)) ++ a : BitVec (3 + 2 + 16)) &&&
    ((e' ++ p' : BitVec (3 + 2)) ++ a' : BitVec (3 + 2 + 16)) = _
  rw [and_append, and_append]
  rfl

/-! ## Operands of effect words -/

@[simp] theorem Phase.ofCode_code (p : Phase) : Phase.ofCode p.code = some p := by cases p <;> rfl

theorem phaseOperand_ok {ph : BitVec 2} {p : Phase} :
    phaseOperand ph = .ok p ↔ ph = p.code := by
  unfold phaseOperand
  revert ph p
  have h : ∀ (ph : BitVec 2), (ph = 0 ∨ ph = 1 ∨ ph = 2 ∨ ph = 3) := by decide
  intro ph p
  rcases h ph with rfl | rfl | rfl | rfl <;> cases p <;> simp [Phase.ofCode, Phase.code]

theorem bitOperand_ok {v : Word} {on : Bool} : bitOperand v = .ok on ↔ v = bitField on := by
  unfold bitOperand
  split
  · rename_i h
    subst h
    cases on <;> simp [bitField]
  · split
    · rename_i h
      subst h
      cases on <;> simp [bitField]
    · cases on <;> simp_all [bitField]

@[simp] theorem phaseOperand_code (p : Phase) : phaseOperand p.code = .ok p := phaseOperand_ok.mpr rfl

@[simp] theorem bitOperand_bitField (on : Bool) : bitOperand (bitField on) = .ok on :=
  bitOperand_ok.mpr rfl

theorem except_map_ok {ε α β : Type} {f : α → β} {x : Except ε α} {y : β} :
    x.map f = .ok y ↔ ∃ a, x = .ok a ∧ f a = y := by
  cases x <;> simp [Except.map]

theorem except_bind_ok {ε α β : Type} {f : α → Except ε β} {x : Except ε α} {y : β} :
    x.bind f = .ok y ↔ ∃ a, x = .ok a ∧ f a = .ok y := by
  cases x <;> simp [Except.bind]

theorem three_bits (w : BitVec 3) :
    w = 0 ∨ w = 1 ∨ w = 2 ∨ w = 3 ∨ w = 4 ∨ w = 5 ∨ w = 6 ∨ w = 7 := by
  revert w
  decide

end Sys2Proof
end

