-- ==== Sys2Proof/Laws/Operands.lean ====
section
/-!
SUPPORT. What each arithmetic operation of the rules computes, as a number: once, so that no proof unfolds it.
-/

namespace Sys2Proof

@[simp] theorem satSub_toNat (a b : Word) : (satSub a b).toNat = a.toNat - b.toNat := by
  have := a.isLt
  simp only [satSub, BitVec.toNat_ofNat]
  omega

@[simp] theorem satAdd_toNat (a b : Word) : (satAdd a b).toNat = min (a.toNat + b.toNat) 65535 := by
  simp only [satAdd, BitVec.toNat_ofNat]
  omega

@[simp] theorem mean_toNat (a b : Word) : (mean a b).toNat = (a.toNat + b.toNat) / 2 := by
  have := a.isLt
  have := b.isLt
  simp only [mean, BitVec.toNat_ofNat]
  omega

theorem succ_toNat {a : Word} (h : a.toNat < 65535) : (a + 1).toNat = a.toNat + 1 := by
  have h1 : (1 : Word).toNat = 1 := rfl
  rw [BitVec.toNat_add, h1]
  omega

theorem pred_toNat {a : Word} (h : 0 < a.toNat) : (a - 1).toNat = a.toNat - 1 := by
  have h1 : (1 : Word).toNat = 1 := rfl
  have := a.isLt
  rw [BitVec.toNat_sub, h1]
  omega

/-- An integer that fits 16 signed bits is not changed by `u16`. -/
theorem u16_toInt {v : Int} (h : -32768 ≤ v ∧ v ≤ 32767) : (u16 v).toInt = v := by
  rw [u16, BitVec.toInt_ofInt]
  exact Int.bmod_eq_of_le (by norm_num; omega) (by norm_num; omega)

theorem rawSample_toNat {c : Cfg} (h : c.adcW ≤ 14) (arg : Word) :
    (c.rawSample arg).toNat = arg.toNat % 2 ^ c.adcW := by
  have h1 : arg.toNat % 2 ^ c.adcW < 2 ^ c.adcW := Nat.mod_lt _ (by positivity)
  have h2 : 2 ^ c.adcW ≤ 2 ^ 14 := Nat.pow_le_pow_right (by norm_num) h
  simp only [Cfg.rawSample, BitVec.toNat_ofNat]
  omega

namespace Machine

theorem stepToward_up {p e : Word} (h : p.toNat < e.toNat) : (stepToward p e).toNat = p.toNat + 1 := by
  have := e.isLt
  rw [stepToward, if_pos h]
  exact succ_toNat (by omega)

theorem stepToward_down {p e : Word} (h : e.toNat < p.toNat) :
    (stepToward p e).toNat = p.toNat - 1 := by
  rw [stepToward, if_neg (by omega), if_pos h]
  exact pred_toNat (by omega)

@[simp] theorem stepToward_self (p : Word) : stepToward p p = p := by
  simp [stepToward]

end Machine

/-! ## What a legal configuration gives (R7) -/

theorem Cfg.legal_bounds {c : Cfg} (h : c.legal = true) :
    c.highSpeedThreshold.toNat < c.lowSpeedPeriod.toNat ∧ 1 ≤ c.rampStep.toNat ∧
    c.rampDuty.toNat ≤ c.dutyGuard.toNat ∧ c.idleDuty.toNat ≤ c.dutyGuard.toNat ∧
    c.dutyGuard.toNat ≤ c.pwmPeriod.toNat ∧ 1 ≤ c.bucketCapacity.toNat ∧
    1 ≤ c.cmdStopThreshold.toNat ∧ c.cmdStopThreshold.toNat ≤ c.cmdStartThreshold.toNat + 1 ∧
    1 ≤ c.adcW ∧ c.adcW ≤ 14 ∧ c.halfBusRef.toNat < 2 ^ c.adcW ∧ 1 ≤ c.manualStep.toNat ∧
    c.tableLen ≤ 65536 ∧ c.pt.legal = true := by
  simpa [Cfg.legal, Cfg.periodsOrdered, Cfg.rampStepPositive, Cfg.dutiesBounded, Cfg.bucketPositive,
    Cfg.commandRegions, Cfg.adcRange, Cfg.manualStepPositive, Cfg.tableFits, and_assoc] using h

theorem Cfg.row_legal {c : Cfg} (h : c.legal = true) (s : Fin 6) : (c.pt.row s).legal = true := by
  obtain ⟨-, -, -, -, -, -, -, -, -, -, -, -, -, h⟩ := Cfg.legal_bounds h
  simp only [PhaseTable.legal, Bool.and_eq_true] at h
  obtain ⟨⟨⟨⟨⟨h0, h1⟩, h2⟩, h3⟩, h4⟩, h5⟩ := h
  fin_cases s <;> assumption

/-- The stored delta is the exact difference, and is within the bounds of R43(h). -/
theorem Cfg.delta_toInt {c : Cfg} (h : c.legal = true) (arg : Word) :
    (c.delta (c.rawSample arg)).toInt =
      ((arg.toNat % 2 ^ c.adcW : Nat) : Int) - (c.halfBusRef.toNat : Int) ∧
    -(2 ^ c.adcW - 1 : Int) ≤ (c.delta (c.rawSample arg)).toInt ∧
    (c.delta (c.rawSample arg)).toInt ≤ (2 ^ c.adcW - 1 : Int) := by
  obtain ⟨-, -, -, -, -, -, -, -, -, hw, hr, -⟩ := Cfg.legal_bounds h
  have h1 : arg.toNat % 2 ^ c.adcW < 2 ^ c.adcW := Nat.mod_lt _ (by positivity)
  have h2 : 2 ^ c.adcW ≤ 2 ^ 14 := Nat.pow_le_pow_right (by norm_num) hw
  have h3 : ((2 ^ c.adcW : Nat) : Int) = (2 : Int) ^ c.adcW := by norm_cast
  have e : (c.delta (c.rawSample arg)).toInt =
      ((arg.toNat % 2 ^ c.adcW : Nat) : Int) - (c.halfBusRef.toNat : Int) := by
    rw [Cfg.delta, rawSample_toNat hw, u16_toInt]
    omega
  refine ⟨e, ?_, ?_⟩ <;> rw [e, ← h3] <;> omega

end Sys2Proof
end

