-- ==== Sys2Proof/Laws/State.lean ====
section
/-!
SUPPORT. One lemma per field of State per named update, each true by definition, so that no later proof unfolds a
record update.
-/

namespace Sys2Proof.Machine.State

@[simp] theorem begin_cfg (s : State) : s.begin.cfg = s.cfg := rfl
@[simp] theorem begin_sector (s : State) : s.begin.sector = s.sector := rfl
@[simp] theorem begin_tickCounter (s : State) : s.begin.tickCounter = s.tickCounter := rfl
@[simp] theorem begin_prevSector (s : State) : s.begin.prevSector = s.prevSector := rfl
@[simp] theorem begin_runState (s : State) : s.begin.runState = s.runState := rfl
@[simp] theorem begin_duty (s : State) : s.begin.duty = s.duty := rfl
@[simp] theorem begin_period (s : State) : s.begin.period = s.period := rfl
@[simp] theorem begin_vbatt (s : State) : s.begin.vbatt = s.vbatt := rfl
@[simp] theorem begin_vsys (s : State) : s.begin.vsys = s.vsys := rfl
@[simp] theorem begin_bucket (s : State) : s.begin.bucket = s.bucket := rfl
@[simp] theorem begin_manualFlag (s : State) : s.begin.manualFlag = s.manualFlag := rfl
@[simp] theorem begin_faultFlag (s : State) : s.begin.faultFlag = s.faultFlag := rfl
@[simp] theorem begin_startReq (s : State) : s.begin.startReq = s.startReq := rfl
@[simp] theorem begin_work (s : State) : s.begin.work = s.work := rfl
@[simp] theorem begin_qual (s : State) : s.begin.qual = s.qual := rfl
@[simp] theorem begin_zcIntegral (s : State) : s.begin.zcIntegral = s.zcIntegral := rfl
@[simp] theorem begin_shadow (s : State) : s.begin.shadow = s.shadow := rfl
@[simp] theorem begin_ports (s : State) : s.begin.ports = s.ports := rfl
@[simp] theorem begin_response (s : State) : s.begin.response = some ⟨false, 0⟩ := rfl
@[simp] theorem begin_effects (s : State) : s.begin.effects = [] := rfl

@[simp] theorem beginEffect_cfg (s : State) : s.beginEffect.cfg = s.cfg := rfl
@[simp] theorem beginEffect_sector (s : State) : s.beginEffect.sector = s.sector := rfl
@[simp] theorem beginEffect_tickCounter (s : State) : s.beginEffect.tickCounter = s.tickCounter := rfl
@[simp] theorem beginEffect_prevSector (s : State) : s.beginEffect.prevSector = s.prevSector := rfl
@[simp] theorem beginEffect_runState (s : State) : s.beginEffect.runState = s.runState := rfl
@[simp] theorem beginEffect_duty (s : State) : s.beginEffect.duty = s.duty := rfl
@[simp] theorem beginEffect_period (s : State) : s.beginEffect.period = s.period := rfl
@[simp] theorem beginEffect_vbatt (s : State) : s.beginEffect.vbatt = s.vbatt := rfl
@[simp] theorem beginEffect_vsys (s : State) : s.beginEffect.vsys = s.vsys := rfl
@[simp] theorem beginEffect_bucket (s : State) : s.beginEffect.bucket = s.bucket := rfl
@[simp] theorem beginEffect_manualFlag (s : State) : s.beginEffect.manualFlag = s.manualFlag := rfl
@[simp] theorem beginEffect_faultFlag (s : State) : s.beginEffect.faultFlag = s.faultFlag := rfl
@[simp] theorem beginEffect_startReq (s : State) : s.beginEffect.startReq = s.startReq := rfl
@[simp] theorem beginEffect_work (s : State) : s.beginEffect.work = s.work := rfl
@[simp] theorem beginEffect_qual (s : State) : s.beginEffect.qual = s.qual := rfl
@[simp] theorem beginEffect_zcIntegral (s : State) : s.beginEffect.zcIntegral = s.zcIntegral := rfl
@[simp] theorem beginEffect_shadow (s : State) : s.beginEffect.shadow = s.shadow := rfl
@[simp] theorem beginEffect_ports (s : State) : s.beginEffect.ports = s.ports := rfl
@[simp] theorem beginEffect_response (s : State) : s.beginEffect.response = none := rfl
@[simp] theorem beginEffect_effects (s : State) : s.beginEffect.effects = [] := rfl

@[simp] theorem respond_cfg (s : State) (v : Word) : (s.respond v).cfg = s.cfg := rfl
@[simp] theorem respond_sector (s : State) (v : Word) : (s.respond v).sector = s.sector := rfl
@[simp] theorem respond_tickCounter (s : State) (v : Word) : (s.respond v).tickCounter = s.tickCounter := rfl
@[simp] theorem respond_prevSector (s : State) (v : Word) : (s.respond v).prevSector = s.prevSector := rfl
@[simp] theorem respond_runState (s : State) (v : Word) : (s.respond v).runState = s.runState := rfl
@[simp] theorem respond_duty (s : State) (v : Word) : (s.respond v).duty = s.duty := rfl
@[simp] theorem respond_period (s : State) (v : Word) : (s.respond v).period = s.period := rfl
@[simp] theorem respond_vbatt (s : State) (v : Word) : (s.respond v).vbatt = s.vbatt := rfl
@[simp] theorem respond_vsys (s : State) (v : Word) : (s.respond v).vsys = s.vsys := rfl
@[simp] theorem respond_bucket (s : State) (v : Word) : (s.respond v).bucket = s.bucket := rfl
@[simp] theorem respond_manualFlag (s : State) (v : Word) : (s.respond v).manualFlag = s.manualFlag := rfl
@[simp] theorem respond_faultFlag (s : State) (v : Word) : (s.respond v).faultFlag = s.faultFlag := rfl
@[simp] theorem respond_startReq (s : State) (v : Word) : (s.respond v).startReq = s.startReq := rfl
@[simp] theorem respond_work (s : State) (v : Word) : (s.respond v).work = s.work := rfl
@[simp] theorem respond_qual (s : State) (v : Word) : (s.respond v).qual = s.qual := rfl
@[simp] theorem respond_zcIntegral (s : State) (v : Word) : (s.respond v).zcIntegral = s.zcIntegral := rfl
@[simp] theorem respond_shadow (s : State) (v : Word) : (s.respond v).shadow = s.shadow := rfl
@[simp] theorem respond_ports (s : State) (v : Word) : (s.respond v).ports = s.ports := rfl
@[simp] theorem respond_response (s : State) (v : Word) : (s.respond v).response = some ⟨false, v⟩ := rfl
@[simp] theorem respond_effects (s : State) (v : Word) : (s.respond v).effects = s.effects := rfl

@[simp] theorem refuse_cfg (s : State) : s.refuse.cfg = s.cfg := rfl
@[simp] theorem refuse_sector (s : State) : s.refuse.sector = s.sector := rfl
@[simp] theorem refuse_tickCounter (s : State) : s.refuse.tickCounter = s.tickCounter := rfl
@[simp] theorem refuse_prevSector (s : State) : s.refuse.prevSector = s.prevSector := rfl
@[simp] theorem refuse_runState (s : State) : s.refuse.runState = s.runState := rfl
@[simp] theorem refuse_duty (s : State) : s.refuse.duty = s.duty := rfl
@[simp] theorem refuse_period (s : State) : s.refuse.period = s.period := rfl
@[simp] theorem refuse_vbatt (s : State) : s.refuse.vbatt = s.vbatt := rfl
@[simp] theorem refuse_vsys (s : State) : s.refuse.vsys = s.vsys := rfl
@[simp] theorem refuse_bucket (s : State) : s.refuse.bucket = s.bucket := rfl
@[simp] theorem refuse_manualFlag (s : State) : s.refuse.manualFlag = s.manualFlag := rfl
@[simp] theorem refuse_faultFlag (s : State) : s.refuse.faultFlag = s.faultFlag := rfl
@[simp] theorem refuse_startReq (s : State) : s.refuse.startReq = s.startReq := rfl
@[simp] theorem refuse_work (s : State) : s.refuse.work = s.work := rfl
@[simp] theorem refuse_qual (s : State) : s.refuse.qual = s.qual := rfl
@[simp] theorem refuse_zcIntegral (s : State) : s.refuse.zcIntegral = s.zcIntegral := rfl
@[simp] theorem refuse_shadow (s : State) : s.refuse.shadow = s.shadow := rfl
@[simp] theorem refuse_ports (s : State) : s.refuse.ports = s.ports := rfl
@[simp] theorem refuse_response (s : State) : s.refuse.response = some ⟨true, 0⟩ := rfl
@[simp] theorem refuse_effects (s : State) : s.refuse.effects = s.effects := rfl

@[simp] theorem emit_cfg (s : State) (e : Effect) : (s.emit e).cfg = s.cfg := rfl
@[simp] theorem emit_sector (s : State) (e : Effect) : (s.emit e).sector = s.sector := rfl
@[simp] theorem emit_tickCounter (s : State) (e : Effect) : (s.emit e).tickCounter = s.tickCounter := rfl
@[simp] theorem emit_prevSector (s : State) (e : Effect) : (s.emit e).prevSector = s.prevSector := rfl
@[simp] theorem emit_runState (s : State) (e : Effect) : (s.emit e).runState = s.runState := rfl
@[simp] theorem emit_duty (s : State) (e : Effect) : (s.emit e).duty = s.duty := rfl
@[simp] theorem emit_period (s : State) (e : Effect) : (s.emit e).period = s.period := rfl
@[simp] theorem emit_vbatt (s : State) (e : Effect) : (s.emit e).vbatt = s.vbatt := rfl
@[simp] theorem emit_vsys (s : State) (e : Effect) : (s.emit e).vsys = s.vsys := rfl
@[simp] theorem emit_bucket (s : State) (e : Effect) : (s.emit e).bucket = s.bucket := rfl
@[simp] theorem emit_manualFlag (s : State) (e : Effect) : (s.emit e).manualFlag = s.manualFlag := rfl
@[simp] theorem emit_faultFlag (s : State) (e : Effect) : (s.emit e).faultFlag = s.faultFlag := rfl
@[simp] theorem emit_startReq (s : State) (e : Effect) : (s.emit e).startReq = s.startReq := rfl
@[simp] theorem emit_work (s : State) (e : Effect) : (s.emit e).work = s.work := rfl
@[simp] theorem emit_qual (s : State) (e : Effect) : (s.emit e).qual = s.qual := rfl
@[simp] theorem emit_zcIntegral (s : State) (e : Effect) : (s.emit e).zcIntegral = s.zcIntegral := rfl
@[simp] theorem emit_shadow (s : State) (e : Effect) : (s.emit e).shadow = s.shadow.apply e := rfl
@[simp] theorem emit_ports (s : State) (e : Effect) : (s.emit e).ports = s.ports := rfl
@[simp] theorem emit_response (s : State) (e : Effect) : (s.emit e).response = s.response := rfl
@[simp] theorem emit_effects (s : State) (e : Effect) : (s.emit e).effects = s.effects ++ [e] := rfl

@[simp] theorem setDuty_cfg (s : State) (v : Word) : (s.setDuty v).cfg = s.cfg := rfl
@[simp] theorem setDuty_sector (s : State) (v : Word) : (s.setDuty v).sector = s.sector := rfl
@[simp] theorem setDuty_tickCounter (s : State) (v : Word) : (s.setDuty v).tickCounter = s.tickCounter := rfl
@[simp] theorem setDuty_prevSector (s : State) (v : Word) : (s.setDuty v).prevSector = s.prevSector := rfl
@[simp] theorem setDuty_runState (s : State) (v : Word) : (s.setDuty v).runState = s.runState := rfl
@[simp] theorem setDuty_duty (s : State) (v : Word) : (s.setDuty v).duty = v := rfl
@[simp] theorem setDuty_period (s : State) (v : Word) : (s.setDuty v).period = s.period := rfl
@[simp] theorem setDuty_vbatt (s : State) (v : Word) : (s.setDuty v).vbatt = s.vbatt := rfl
@[simp] theorem setDuty_vsys (s : State) (v : Word) : (s.setDuty v).vsys = s.vsys := rfl
@[simp] theorem setDuty_bucket (s : State) (v : Word) : (s.setDuty v).bucket = s.bucket := rfl
@[simp] theorem setDuty_manualFlag (s : State) (v : Word) : (s.setDuty v).manualFlag = s.manualFlag := rfl
@[simp] theorem setDuty_faultFlag (s : State) (v : Word) : (s.setDuty v).faultFlag = s.faultFlag := rfl
@[simp] theorem setDuty_startReq (s : State) (v : Word) : (s.setDuty v).startReq = s.startReq := rfl
@[simp] theorem setDuty_work (s : State) (v : Word) : (s.setDuty v).work = s.work := rfl
@[simp] theorem setDuty_qual (s : State) (v : Word) : (s.setDuty v).qual = s.qual := rfl
@[simp] theorem setDuty_zcIntegral (s : State) (v : Word) : (s.setDuty v).zcIntegral = s.zcIntegral := rfl
@[simp] theorem setDuty_shadow (s : State) (v : Word) : (s.setDuty v).shadow = s.shadow := rfl
@[simp] theorem setDuty_ports (s : State) (v : Word) : (s.setDuty v).ports = s.ports := rfl
@[simp] theorem setDuty_response (s : State) (v : Word) : (s.setDuty v).response = s.response := rfl
@[simp] theorem setDuty_effects (s : State) (v : Word) : (s.setDuty v).effects = s.effects := rfl

@[simp] theorem stopProcedure_cfg (s : State) : s.stopProcedure.cfg = s.cfg := rfl
@[simp] theorem stopProcedure_sector (s : State) : s.stopProcedure.sector = s.sector := rfl
@[simp] theorem stopProcedure_tickCounter (s : State) : s.stopProcedure.tickCounter = s.tickCounter := rfl
@[simp] theorem stopProcedure_prevSector (s : State) : s.stopProcedure.prevSector = s.prevSector := rfl
@[simp] theorem stopProcedure_runState (s : State) : s.stopProcedure.runState = .off := rfl
@[simp] theorem stopProcedure_duty (s : State) : s.stopProcedure.duty = s.duty := rfl
@[simp] theorem stopProcedure_period (s : State) : s.stopProcedure.period = s.period := rfl
@[simp] theorem stopProcedure_vbatt (s : State) : s.stopProcedure.vbatt = s.vbatt := rfl
@[simp] theorem stopProcedure_vsys (s : State) : s.stopProcedure.vsys = s.vsys := rfl
@[simp] theorem stopProcedure_bucket (s : State) : s.stopProcedure.bucket = s.bucket := rfl
@[simp] theorem stopProcedure_manualFlag (s : State) : s.stopProcedure.manualFlag = s.manualFlag := rfl
@[simp] theorem stopProcedure_faultFlag (s : State) : s.stopProcedure.faultFlag = s.faultFlag := rfl
@[simp] theorem stopProcedure_startReq (s : State) : s.stopProcedure.startReq = false := rfl
@[simp] theorem stopProcedure_work (s : State) : s.stopProcedure.work = s.work := rfl
@[simp] theorem stopProcedure_qual (s : State) : s.stopProcedure.qual = s.qual := rfl
@[simp] theorem stopProcedure_zcIntegral (s : State) : s.stopProcedure.zcIntegral = s.zcIntegral := rfl
@[simp] theorem stopProcedure_shadow (s : State) : s.stopProcedure.shadow = s.shadow := rfl
@[simp] theorem stopProcedure_ports (s : State) : s.stopProcedure.ports = s.ports := rfl
@[simp] theorem stopProcedure_response (s : State) : s.stopProcedure.response = s.response := rfl
@[simp] theorem stopProcedure_effects (s : State) : s.stopProcedure.effects = s.effects := rfl

@[simp] theorem requestStart_cfg (s : State) : s.requestStart.cfg = s.cfg := rfl
@[simp] theorem requestStart_sector (s : State) : s.requestStart.sector = s.sector := rfl
@[simp] theorem requestStart_tickCounter (s : State) : s.requestStart.tickCounter = s.tickCounter := rfl
@[simp] theorem requestStart_prevSector (s : State) : s.requestStart.prevSector = s.prevSector := rfl
@[simp] theorem requestStart_runState (s : State) : s.requestStart.runState = s.runState := rfl
@[simp] theorem requestStart_duty (s : State) : s.requestStart.duty = s.duty := rfl
@[simp] theorem requestStart_period (s : State) : s.requestStart.period = s.period := rfl
@[simp] theorem requestStart_vbatt (s : State) : s.requestStart.vbatt = s.vbatt := rfl
@[simp] theorem requestStart_vsys (s : State) : s.requestStart.vsys = s.vsys := rfl
@[simp] theorem requestStart_bucket (s : State) : s.requestStart.bucket = s.bucket := rfl
@[simp] theorem requestStart_manualFlag (s : State) : s.requestStart.manualFlag = s.manualFlag := rfl
@[simp] theorem requestStart_faultFlag (s : State) : s.requestStart.faultFlag = s.faultFlag := rfl
@[simp] theorem requestStart_startReq (s : State) : s.requestStart.startReq = true := rfl
@[simp] theorem requestStart_work (s : State) : s.requestStart.work = s.work := rfl
@[simp] theorem requestStart_qual (s : State) : s.requestStart.qual = s.qual := rfl
@[simp] theorem requestStart_zcIntegral (s : State) : s.requestStart.zcIntegral = s.zcIntegral := rfl
@[simp] theorem requestStart_shadow (s : State) : s.requestStart.shadow = s.shadow := rfl
@[simp] theorem requestStart_ports (s : State) : s.requestStart.ports = s.ports := rfl
@[simp] theorem requestStart_response (s : State) : s.requestStart.response = s.response := rfl
@[simp] theorem requestStart_effects (s : State) : s.requestStart.effects = s.effects := rfl

@[simp] theorem clearStart_cfg (s : State) : s.clearStart.cfg = s.cfg := rfl
@[simp] theorem clearStart_sector (s : State) : s.clearStart.sector = s.sector := rfl
@[simp] theorem clearStart_tickCounter (s : State) : s.clearStart.tickCounter = s.tickCounter := rfl
@[simp] theorem clearStart_prevSector (s : State) : s.clearStart.prevSector = s.prevSector := rfl
@[simp] theorem clearStart_runState (s : State) : s.clearStart.runState = s.runState := rfl
@[simp] theorem clearStart_duty (s : State) : s.clearStart.duty = s.duty := rfl
@[simp] theorem clearStart_period (s : State) : s.clearStart.period = s.period := rfl
@[simp] theorem clearStart_vbatt (s : State) : s.clearStart.vbatt = s.vbatt := rfl
@[simp] theorem clearStart_vsys (s : State) : s.clearStart.vsys = s.vsys := rfl
@[simp] theorem clearStart_bucket (s : State) : s.clearStart.bucket = s.bucket := rfl
@[simp] theorem clearStart_manualFlag (s : State) : s.clearStart.manualFlag = s.manualFlag := rfl
@[simp] theorem clearStart_faultFlag (s : State) : s.clearStart.faultFlag = s.faultFlag := rfl
@[simp] theorem clearStart_startReq (s : State) : s.clearStart.startReq = false := rfl
@[simp] theorem clearStart_work (s : State) : s.clearStart.work = s.work := rfl
@[simp] theorem clearStart_qual (s : State) : s.clearStart.qual = s.qual := rfl
@[simp] theorem clearStart_zcIntegral (s : State) : s.clearStart.zcIntegral = s.zcIntegral := rfl
@[simp] theorem clearStart_shadow (s : State) : s.clearStart.shadow = s.shadow := rfl
@[simp] theorem clearStart_ports (s : State) : s.clearStart.ports = s.ports := rfl
@[simp] theorem clearStart_response (s : State) : s.clearStart.response = s.response := rfl
@[simp] theorem clearStart_effects (s : State) : s.clearStart.effects = s.effects := rfl

@[simp] theorem setManual_cfg (s : State) : s.setManual.cfg = s.cfg := rfl
@[simp] theorem setManual_sector (s : State) : s.setManual.sector = s.sector := rfl
@[simp] theorem setManual_tickCounter (s : State) : s.setManual.tickCounter = s.tickCounter := rfl
@[simp] theorem setManual_prevSector (s : State) : s.setManual.prevSector = s.prevSector := rfl
@[simp] theorem setManual_runState (s : State) : s.setManual.runState = s.runState := rfl
@[simp] theorem setManual_duty (s : State) : s.setManual.duty = s.duty := rfl
@[simp] theorem setManual_period (s : State) : s.setManual.period = s.period := rfl
@[simp] theorem setManual_vbatt (s : State) : s.setManual.vbatt = s.vbatt := rfl
@[simp] theorem setManual_vsys (s : State) : s.setManual.vsys = s.vsys := rfl
@[simp] theorem setManual_bucket (s : State) : s.setManual.bucket = s.bucket := rfl
@[simp] theorem setManual_manualFlag (s : State) : s.setManual.manualFlag = true := rfl
@[simp] theorem setManual_faultFlag (s : State) : s.setManual.faultFlag = s.faultFlag := rfl
@[simp] theorem setManual_startReq (s : State) : s.setManual.startReq = s.startReq := rfl
@[simp] theorem setManual_work (s : State) : s.setManual.work = s.work := rfl
@[simp] theorem setManual_qual (s : State) : s.setManual.qual = s.qual := rfl
@[simp] theorem setManual_zcIntegral (s : State) : s.setManual.zcIntegral = s.zcIntegral := rfl
@[simp] theorem setManual_shadow (s : State) : s.setManual.shadow = s.shadow := rfl
@[simp] theorem setManual_ports (s : State) : s.setManual.ports = s.ports := rfl
@[simp] theorem setManual_response (s : State) : s.setManual.response = s.response := rfl
@[simp] theorem setManual_effects (s : State) : s.setManual.effects = s.effects := rfl

@[simp] theorem clearManual_cfg (s : State) : s.clearManual.cfg = s.cfg := rfl
@[simp] theorem clearManual_sector (s : State) : s.clearManual.sector = s.sector := rfl
@[simp] theorem clearManual_tickCounter (s : State) : s.clearManual.tickCounter = s.tickCounter := rfl
@[simp] theorem clearManual_prevSector (s : State) : s.clearManual.prevSector = s.prevSector := rfl
@[simp] theorem clearManual_runState (s : State) : s.clearManual.runState = s.runState := rfl
@[simp] theorem clearManual_duty (s : State) : s.clearManual.duty = s.duty := rfl
@[simp] theorem clearManual_period (s : State) : s.clearManual.period = s.period := rfl
@[simp] theorem clearManual_vbatt (s : State) : s.clearManual.vbatt = s.vbatt := rfl
@[simp] theorem clearManual_vsys (s : State) : s.clearManual.vsys = s.vsys := rfl
@[simp] theorem clearManual_bucket (s : State) : s.clearManual.bucket = s.bucket := rfl
@[simp] theorem clearManual_manualFlag (s : State) : s.clearManual.manualFlag = false := rfl
@[simp] theorem clearManual_faultFlag (s : State) : s.clearManual.faultFlag = s.faultFlag := rfl
@[simp] theorem clearManual_startReq (s : State) : s.clearManual.startReq = s.startReq := rfl
@[simp] theorem clearManual_work (s : State) : s.clearManual.work = s.work := rfl
@[simp] theorem clearManual_qual (s : State) : s.clearManual.qual = s.qual := rfl
@[simp] theorem clearManual_zcIntegral (s : State) : s.clearManual.zcIntegral = s.zcIntegral := rfl
@[simp] theorem clearManual_shadow (s : State) : s.clearManual.shadow = s.shadow := rfl
@[simp] theorem clearManual_ports (s : State) : s.clearManual.ports = s.ports := rfl
@[simp] theorem clearManual_response (s : State) : s.clearManual.response = s.response := rfl
@[simp] theorem clearManual_effects (s : State) : s.clearManual.effects = s.effects := rfl

@[simp] theorem clearFault_cfg (s : State) : s.clearFault.cfg = s.cfg := rfl
@[simp] theorem clearFault_sector (s : State) : s.clearFault.sector = s.sector := rfl
@[simp] theorem clearFault_tickCounter (s : State) : s.clearFault.tickCounter = s.tickCounter := rfl
@[simp] theorem clearFault_prevSector (s : State) : s.clearFault.prevSector = s.prevSector := rfl
@[simp] theorem clearFault_runState (s : State) : s.clearFault.runState = s.runState := rfl
@[simp] theorem clearFault_duty (s : State) : s.clearFault.duty = s.duty := rfl
@[simp] theorem clearFault_period (s : State) : s.clearFault.period = s.period := rfl
@[simp] theorem clearFault_vbatt (s : State) : s.clearFault.vbatt = s.vbatt := rfl
@[simp] theorem clearFault_vsys (s : State) : s.clearFault.vsys = s.vsys := rfl
@[simp] theorem clearFault_bucket (s : State) : s.clearFault.bucket = s.bucket := rfl
@[simp] theorem clearFault_manualFlag (s : State) : s.clearFault.manualFlag = s.manualFlag := rfl
@[simp] theorem clearFault_faultFlag (s : State) : s.clearFault.faultFlag = false := rfl
@[simp] theorem clearFault_startReq (s : State) : s.clearFault.startReq = s.startReq := rfl
@[simp] theorem clearFault_work (s : State) : s.clearFault.work = s.work := rfl
@[simp] theorem clearFault_qual (s : State) : s.clearFault.qual = s.qual := rfl
@[simp] theorem clearFault_zcIntegral (s : State) : s.clearFault.zcIntegral = s.zcIntegral := rfl
@[simp] theorem clearFault_shadow (s : State) : s.clearFault.shadow = s.shadow := rfl
@[simp] theorem clearFault_ports (s : State) : s.clearFault.ports = s.ports := rfl
@[simp] theorem clearFault_response (s : State) : s.clearFault.response = s.response := rfl
@[simp] theorem clearFault_effects (s : State) : s.clearFault.effects = s.effects := rfl

@[simp] theorem vsysAverage_cfg (s : State) : s.vsysAverage.cfg = s.cfg := rfl
@[simp] theorem vsysAverage_sector (s : State) : s.vsysAverage.sector = s.sector := rfl
@[simp] theorem vsysAverage_tickCounter (s : State) : s.vsysAverage.tickCounter = s.tickCounter := rfl
@[simp] theorem vsysAverage_prevSector (s : State) : s.vsysAverage.prevSector = s.prevSector := rfl
@[simp] theorem vsysAverage_runState (s : State) : s.vsysAverage.runState = s.runState := rfl
@[simp] theorem vsysAverage_duty (s : State) : s.vsysAverage.duty = s.duty := rfl
@[simp] theorem vsysAverage_period (s : State) : s.vsysAverage.period = s.period := rfl
@[simp] theorem vsysAverage_vbatt (s : State) : s.vsysAverage.vbatt = s.vbatt := rfl
@[simp] theorem vsysAverage_vsys (s : State) : s.vsysAverage.vsys = mean s.vsys s.vbatt := rfl
@[simp] theorem vsysAverage_bucket (s : State) : s.vsysAverage.bucket = s.bucket := rfl
@[simp] theorem vsysAverage_manualFlag (s : State) : s.vsysAverage.manualFlag = s.manualFlag := rfl
@[simp] theorem vsysAverage_faultFlag (s : State) : s.vsysAverage.faultFlag = s.faultFlag := rfl
@[simp] theorem vsysAverage_startReq (s : State) : s.vsysAverage.startReq = s.startReq := rfl
@[simp] theorem vsysAverage_work (s : State) : s.vsysAverage.work = s.work := rfl
@[simp] theorem vsysAverage_qual (s : State) : s.vsysAverage.qual = s.qual := rfl
@[simp] theorem vsysAverage_zcIntegral (s : State) : s.vsysAverage.zcIntegral = s.zcIntegral := rfl
@[simp] theorem vsysAverage_shadow (s : State) : s.vsysAverage.shadow = s.shadow := rfl
@[simp] theorem vsysAverage_ports (s : State) : s.vsysAverage.ports = s.ports := rfl
@[simp] theorem vsysAverage_response (s : State) : s.vsysAverage.response = s.response := rfl
@[simp] theorem vsysAverage_effects (s : State) : s.vsysAverage.effects = s.effects := rfl

@[simp] theorem storeSample_cfg (s : State) (idx : Fin 4) (raw : Word) : (s.storeSample idx raw).cfg = s.cfg := rfl
@[simp] theorem storeSample_sector (s : State) (idx : Fin 4) (raw : Word) : (s.storeSample idx raw).sector = s.sector := rfl
@[simp] theorem storeSample_tickCounter (s : State) (idx : Fin 4) (raw : Word) : (s.storeSample idx raw).tickCounter = s.tickCounter := rfl
@[simp] theorem storeSample_prevSector (s : State) (idx : Fin 4) (raw : Word) : (s.storeSample idx raw).prevSector = s.prevSector := rfl
@[simp] theorem storeSample_runState (s : State) (idx : Fin 4) (raw : Word) : (s.storeSample idx raw).runState = s.runState := rfl
@[simp] theorem storeSample_duty (s : State) (idx : Fin 4) (raw : Word) : (s.storeSample idx raw).duty = s.duty := rfl
@[simp] theorem storeSample_period (s : State) (idx : Fin 4) (raw : Word) : (s.storeSample idx raw).period = s.period := rfl
@[simp] theorem storeSample_vbatt (s : State) (idx : Fin 4) (raw : Word) : (s.storeSample idx raw).vbatt = s.vbatt := rfl
@[simp] theorem storeSample_vsys (s : State) (idx : Fin 4) (raw : Word) : (s.storeSample idx raw).vsys = s.vsys := rfl
@[simp] theorem storeSample_bucket (s : State) (idx : Fin 4) (raw : Word) : (s.storeSample idx raw).bucket = s.bucket := rfl
@[simp] theorem storeSample_manualFlag (s : State) (idx : Fin 4) (raw : Word) : (s.storeSample idx raw).manualFlag = s.manualFlag := rfl
@[simp] theorem storeSample_faultFlag (s : State) (idx : Fin 4) (raw : Word) : (s.storeSample idx raw).faultFlag = s.faultFlag := rfl
@[simp] theorem storeSample_startReq (s : State) (idx : Fin 4) (raw : Word) : (s.storeSample idx raw).startReq = s.startReq := rfl
@[simp] theorem storeSample_work (s : State) (idx : Fin 4) (raw : Word) : (s.storeSample idx raw).work = s.work.set idx (s.cfg.delta raw) := rfl
@[simp] theorem storeSample_qual (s : State) (idx : Fin 4) (raw : Word) : (s.storeSample idx raw).qual = s.qual := rfl
@[simp] theorem storeSample_zcIntegral (s : State) (idx : Fin 4) (raw : Word) : (s.storeSample idx raw).zcIntegral = s.zcIntegral := rfl
@[simp] theorem storeSample_shadow (s : State) (idx : Fin 4) (raw : Word) : (s.storeSample idx raw).shadow = s.shadow := rfl
@[simp] theorem storeSample_ports (s : State) (idx : Fin 4) (raw : Word) : (s.storeSample idx raw).ports = s.ports := rfl
@[simp] theorem storeSample_response (s : State) (idx : Fin 4) (raw : Word) : (s.storeSample idx raw).response = s.response := rfl
@[simp] theorem storeSample_effects (s : State) (idx : Fin 4) (raw : Word) : (s.storeSample idx raw).effects = s.effects := rfl

end Sys2Proof.Machine.State
end

