-- ==== Sys2Proof/Laws/Ops.lean ====
section
/-!
SUPPORT. What each shared operation can do, said once: every conditional update as one unconditional update of
the fields it may write, the effect lists as folds over the shadows, and the ways `fetch` can end. Proofs cite
these and need not unfold the operations.
-/

namespace Sys2Proof

/-! ## Phases and slots -/

@[simp] theorem PerPhase.get_set {α : Type} (t : PerPhase α) (p q : Phase) (v : α) :
    (t.set p v).get q = if q = p then v else t.get q := by
  cases p <;> cases q <;> rfl

@[simp] theorem PerPhase.get_mk {α : Type} (x y z : α) (p : Phase) :
    (PerPhase.mk x y z).get p = (match p with | .a => x | .b => y | .c => z) := by
  cases p <;> rfl

theorem PerPhase.ext_get {α : Type} {t u : PerPhase α} (h : ∀ p, t.get p = u.get p) : t = u := by
  have ha := h .a
  have hb := h .b
  have hc := h .c
  cases t
  cases u
  simp_all [PerPhase.get]

namespace Machine

@[simp] theorem Slots.get_set (w : Slots) (i j : Fin 4) (v : Word) :
    (w.set i v).get j = if j = i then v else w.get j := by
  fin_cases i <;> fin_cases j <;> rfl

theorem Slots.set_within {w : Slots} {n : Nat} (h : w.within n) (i : Fin 4) {v : Word}
    (hv : -(2 ^ n - 1 : Int) ≤ v.toInt ∧ v.toInt ≤ (2 ^ n - 1 : Int)) : (w.set i v).within n := by
  intro j
  rw [Slots.get_set]
  split
  · exact hv
  · exact h j

/-! ## Effect lists -/

@[simp] theorem Shadow.applyAll_nil (h : Shadow) : h.applyAll [] = h := rfl

@[simp] theorem Shadow.applyAll_cons (h : Shadow) (e : Effect) (es : List Effect) :
    h.applyAll (e :: es) = (h.apply e).applyAll es := rfl

theorem Shadow.applyAll_append (h : Shadow) (es fs : List Effect) :
    h.applyAll (es ++ fs) = (h.applyAll es).applyAll fs := List.foldl_append ..

theorem State.emitAll_eq (s : State) (es : List Effect) :
    s.emitAll es = { s with shadow := s.shadow.applyAll es, effects := s.effects ++ es } := by
  induction es generalizing s with
  | nil => simp [State.emitAll]
  | cons e es ih =>
    have h : s.emitAll (e :: es) = (s.emit e).emitAll es := rfl
    simp [h, ih, State.emit]

theorem mem_forPhases {words : Phase → List Effect} {e : Effect} :
    e ∈ forPhases words ↔ ∃ p, e ∈ words p := by
  simp only [forPhases, phases, List.mem_flatMap]
  constructor
  · rintro ⟨p, -, h⟩
    exact ⟨p, h⟩
  · rintro ⟨p, h⟩
    exact ⟨p, by cases p <;> simp, h⟩

/-! ## Conditional updates as updates -/

theorem State.increment_eq (s : State) :
    s.increment = { s with
      duty := if s.duty.toNat < s.cfg.dutyGuard.toNat then s.duty + 1 else s.duty } := by
  unfold State.increment
  split <;> rfl

theorem State.decrement_eq (s : State) :
    s.decrement = { s with duty := if 0 < s.duty.toNat then s.duty - 1 else s.duty } := by
  unfold State.decrement
  split <;> rfl

theorem State.bucketStep_eq (s : State) :
    s.bucketStep = { s with
      bucket :=
        if s.vsys.toNat < s.cfg.vShutdownThreshold.toNat then
          if 0 < s.bucket.toNat then s.bucket - 1 else s.bucket
        else if s.bucket.toNat < s.cfg.bucketCapacity.toNat then s.bucket + 1 else s.bucket } := by
  unfold State.bucketStep
  split <;> split <;> rfl

theorem State.faultLatch_eq (s : State) :
    s.faultLatch = { s with faultFlag := s.faultFlag || s.bucket == 0 } := by
  unfold State.faultLatch
  split
  · simp_all
  · cases s
    simp_all

theorem State.faultForce_eq (s : State) :
    s.faultForce = { s with duty := if s.faultFlag then 0 else s.duty } := by
  unfold State.faultForce
  split <;> rfl

theorem State.timingCorrect_eq (s : State) :
    s.timingCorrect = { s with
      period :=
        if s.manualFlag then s.period
        else (s.cfg.tct[s.duty.toNat]?).elim s.period (stepToward s.period) } := by
  unfold State.timingCorrect
  split
  · rfl
  · split <;> (rename_i h; simp [h])

theorem State.masterOn_eq (s : State) :
    s.masterOn = { s with
      shadow := { s.shadow with masterEn := true }
      effects := s.effects ++ if s.shadow.masterEn then [] else [.masterEnable true] } := by
  unfold State.masterOn
  split
  · obtain ⟨_, _, _, _, _, _, _, _, _, _, _, _, _, _, _, _, ⟨_, _, _, _, _⟩, _, _, _⟩ := s
    simp_all
  · simp_all [State.emit, Shadow.apply]

theorem State.qualify_eq (s : State) (raw : Word) :
    s.qualify raw = { s with
      qual := if (s.cfg.pt.row s.sector).a = .floatFalling then s.work else s.qual
      zcIntegral :=
        if (s.cfg.pt.row s.sector).a = .floatFalling then signedSum s.work.s1 s.work.s2
        else s.zcIntegral
      vbatt := if (s.cfg.pt.row s.sector).a = .drivenHigh then raw else s.vbatt } := by
  unfold State.qualify
  split <;> simp_all

theorem State.switchTo_eq (s : State) (n : Fin 6) :
    s.switchTo n = { s with
      shadow := s.shadow.applyAll (switchWords s.duty s.prevRow (s.cfg.pt.row n))
      effects := s.effects ++ switchWords s.duty s.prevRow (s.cfg.pt.row n)
      prevSector := some n } := by
  simp only [State.switchTo, State.emitAll_eq]

theorem State.idlePath_eq (s : State) :
    s.idlePath = { s with
      shadow := { s.shadow with hbEn := everyPhase false, masterEn := false }
      effects := s.effects ++ idleWords
      prevSector := none } := by
  simp [State.idlePath, State.emitAll_eq, idleWords, Shadow.apply, PerPhase.set]

theorem State.rampStep_eq (s : State) :
    s.rampStep =
      let p := satSub s.period s.cfg.rampStep
      if p.toNat ≤ s.cfg.highSpeedThreshold.toNat then
        { s with duty := s.cfg.idleDuty, period := p, runState := .on, vsys := s.vbatt, manualFlag := false }
      else { s with duty := s.cfg.rampDuty, period := p } := by
  by_cases h : (satSub s.period s.cfg.rampStep).toNat ≤ s.cfg.highSpeedThreshold.toNat <;>
    simp_all [State.rampStep, State.rampDone, State.setDuty, State.clearManual]

/-- Everything an operation can leave of the run state, the counters and the sampler's registers when it is no
`TICK`. -/
theorem State.updateBranch_frame (s : State) :
    s.updateBranch = { s with
      runState := s.updateBranch.runState
      duty := s.updateBranch.duty
      period := s.updateBranch.period
      vsys := s.updateBranch.vsys
      bucket := s.updateBranch.bucket
      manualFlag := s.updateBranch.manualFlag
      faultFlag := s.updateBranch.faultFlag
      startReq := s.updateBranch.startReq } := by
  unfold State.updateBranch
  split
  · simp only [State.rampStep_eq]
    split
    · split <;> rfl
    · rfl
  · rw [State.rampStep_eq]
    dsimp only
    split <;> rfl
  · simp only [State.onStep, State.timingCorrect_eq, State.faultForce_eq, State.faultLatch_eq,
      State.bucketStep_eq, State.vsysAverage]

/-! ## What a step finds -/

/-- The four ways a legal machine's fetch ends: a reset, an effect word of its port, a wait, or a requested
operation. -/
theorem State.fetch_run {s s' : State} {i : Instr} (h : s.fetch = .run i s') :
    s.cfg.legal = true ∧ s' = { s with ports := s'.ports } ∧
      ((∃ w e, s.ports.effectLine = some w ∧ decodeEffect w = .ok e ∧ i = e.toInstr ∧
          s'.ports = { s.ports with effectLine := none, ack := none }) ∨
        (s.ports.effectLine = none ∧ s.ports.resetAsserted = false ∧
          s.ports.arrive.arbitrate = some (i, s'.ports))) := by
  unfold State.fetch at h
  split at h
  · rename_i hl
    refine ⟨hl, ?_⟩
    split at h
    · rename_i w hw
      unfold State.fetchEffect at h
      split at h
      · rename_i e he
        cases h
        exact ⟨rfl, .inl ⟨w, e, hw, he, rfl, rfl⟩⟩
      · cases h
    · rename_i hn
      split at h
      · cases h
      · rename_i hr
        unfold State.fetchEvent at h
        split at h
        · rename_i j p hp
          cases h
          exact ⟨rfl, .inr ⟨hn, by simpa using hr, hp⟩⟩
        · cases h
  · cases h

theorem State.fetch_settled {s s' : State} (h : s.fetch = .settled s') :
    s.cfg.legal = true ∧ s.ports.effectLine = none ∧
      ((s.ports.resetAsserted = true ∧ s' = s.resetNow) ∨
        (s.ports.resetAsserted = false ∧ s.ports.arrive.arbitrate = none ∧
          s' = s.wait s.ports.arrive)) := by
  unfold State.fetch at h
  split at h
  · rename_i hl
    refine ⟨hl, ?_⟩
    split at h
    · unfold State.fetchEffect at h
      split at h <;> cases h
    · rename_i hn
      refine ⟨hn, ?_⟩
      split at h
      · rename_i hr
        cases h
        exact .inl ⟨hr, rfl⟩
      · rename_i hr
        unfold State.fetchEvent at h
        split at h
        · cases h
        · rename_i hp
          cases h
          exact .inr ⟨by simpa using hr, hp, rfl⟩
  · cases h

/-- A step is the meaning of what was fetched, or ends where fetch settled. -/
theorem step_cases {s t : State} (h : step s = .next t) :
    (∃ i s', s.fetch = .run i s' ∧ exec i s' = .next t) ∨ s.fetch = .settled t := by
  unfold step at h
  split at h
  · rename_i i s' hf
    exact .inl ⟨i, s', hf, h⟩
  · rename_i s' hf
    cases h
    exact .inr hf
  · cases h

/-- The effect line is never set by the arrivals or the arbiter. -/
theorem Ports.arbitrate_effectLine {p q : Ports} {i : Instr} (h : p.arbitrate = some (i, q)) :
    q.effectLine = p.effectLine := by
  unfold Ports.arbitrate at h
  split at h <;> first | (cases h; rfl) | cases h

@[simp] theorem Ports.arrive_effectLine (p : Ports) : p.arrive.effectLine = p.effectLine := by
  unfold Ports.arrive
  split <;> rfl

/-! ## Sequences of operations -/

@[simp] theorem runOps_nil (s : State) : runOps [] s = .next s := rfl

theorem runOps_cons {i : Instr} {s t : State} (h : exec i s = .next t) (rest : List Instr) :
    runOps (i :: rest) s = runOps rest t := by
  simp only [runOps, h]

theorem runOps_append {ops : List Instr} {s t : State} (h : runOps ops s = .next t) (more : List Instr) :
    runOps (ops ++ more) s = runOps more t := by
  induction ops generalizing s with
  | nil =>
    cases h
    rfl
  | cons i rest ih =>
    simp only [runOps, List.cons_append] at h ⊢
    split at h
    · exact ih h
    · cases h
    · cases h

@[simp] theorem updatesInOn_nil (s : State) : updatesInOn [] s = 0 := rfl

theorem updatesInOn_cons {i : Instr} {s t : State} (h : exec i s = .next t) (rest : List Instr) :
    updatesInOn (i :: rest) s =
      (if i = .update ∧ s.runState = .on then 1 else 0) + updatesInOn rest t := by
  simp only [updatesInOn, h]

end Machine
end Sys2Proof
end

