-- ==== Sys2Proof/Laws/PerInstr.lean ====
section
/-!
SUPPORT. Facts said instruction by instruction. The family `TableRow`: the word the encoder writes for an
instruction meets the mask and match of that instruction's own row of R81 or R87.
-/

namespace Sys2Proof.Laws

theorem eventRow (op : BitVec 4) (arg : Word) (name : String)
    (h : ⟨name, eventWord op 0, eventWord 0xF 0⟩ ∈ eventTable) :
    ∃ r ∈ eventTable, r.name = name ∧ r.has (eventWord op arg) = true := by
  refine ⟨_, h, rfl, ?_⟩
  have h15 : ∀ o : BitVec 4, o &&& 0xF = o := by decide
  have h0 : arg &&& 0 = 0 := BitVec.and_zero
  simp only [Row.has, eventWord_and, h15, h0, beq_self_eq_true]

theorem effectRow (e em : BitVec 3) (p pm : BitVec 2) (v vm : Word) (name : String)
    (h : ⟨name, effectWord (e &&& em) (p &&& pm) (v &&& vm), effectWord em pm vm⟩ ∈ effectTable) :
    ∃ r ∈ effectTable, r.name = name ∧ r.has (effectWord e p v) = true := by
  refine ⟨_, h, rfl, ?_⟩
  simp only [Row.has, effectWord_and, beq_self_eq_true]

/-- The word of the instruction is of the row that carries its mnemonic. -/
def TableRow.Statement (i : Instr) : Prop :=
  match encode i with
  | .event w => ∃ r ∈ eventTable, r.name = i.mnemonic ∧ r.has w = true
  | .effect w => ∃ r ∈ effectTable, r.name = i.mnemonic ∧ r.has w = true

theorem TableRow.tick (arg : Word) : TableRow.Statement (.tick arg) := eventRow 0x0 arg "TICK" (by decide)
theorem TableRow.update : TableRow.Statement .update := eventRow 0x1 0 "UPDATE" (by decide)
theorem TableRow.startRamp : TableRow.Statement .startRamp := eventRow 0x2 0 "START_RAMP" (by decide)
theorem TableRow.stop : TableRow.Statement .stop := eventRow 0x3 0 "STOP" (by decide)
theorem TableRow.setCmdDuty (c : Word) : TableRow.Statement (.setCmdDuty c) :=
  eventRow 0x4 c "SET_CMD_DUTY" (by decide)
theorem TableRow.manSpdInc : TableRow.Statement .manSpdInc := eventRow 0x5 0 "MAN_SPD_INC" (by decide)
theorem TableRow.manSpdDec : TableRow.Statement .manSpdDec := eventRow 0x6 0 "MAN_SPD_DEC" (by decide)
theorem TableRow.dutyInc : TableRow.Statement .dutyInc := eventRow 0x7 0 "DUTY_INC" (by decide)
theorem TableRow.dutyDec : TableRow.Statement .dutyDec := eventRow 0x8 0 "DUTY_DEC" (by decide)
theorem TableRow.getDuty : TableRow.Statement .getDuty := eventRow 0x9 0 "GET_DUTY" (by decide)
theorem TableRow.getPeriod : TableRow.Statement .getPeriod := eventRow 0xA 0 "GET_PERIOD" (by decide)
theorem TableRow.getFault : TableRow.Statement .getFault := eventRow 0xB 0 "GET_FAULT" (by decide)
theorem TableRow.getVsys : TableRow.Statement .getVsys := eventRow 0xC 0 "GET_VSYS" (by decide)
theorem TableRow.getZc : TableRow.Statement .getZc := eventRow 0xD 0 "GET_ZC" (by decide)
theorem TableRow.getState : TableRow.Statement .getState := eventRow 0xE 0 "GET_STATE" (by decide)
theorem TableRow.reservedF : TableRow.Statement .reservedF := eventRow 0xF 0 "RESERVED_F" (by decide)
theorem TableRow.pwmEnable (p : Phase) (duty : Word) : TableRow.Statement (.pwmEnable p duty) := by
  have h : duty &&& 0 = 0 := BitVec.and_zero
  have h' : p.code &&& 0 = 0 := BitVec.and_zero
  exact effectRow 0 7 p.code 0 duty 0 "PWM_ENABLE" (by rw [h, h']; decide)
theorem TableRow.pwmDisable (p : Phase) : TableRow.Statement (.pwmDisable p) := by
  cases p <;> exact effectRow 1 7 _ 0 0 0xFFFF "PWM_DISABLE" (by decide)
theorem TableRow.outputLow (p : Phase) : TableRow.Statement (.outputLow p) := by
  cases p <;> exact effectRow 2 7 _ 0 0 0xFFFF "OUTPUT_LOW" (by decide)
theorem TableRow.hbEnable (p : Phase) (on : Bool) : TableRow.Statement (.hbEnable p on) := by
  cases p <;> cases on <;> exact effectRow 3 7 _ 0 _ 0xFFFE "HB_ENABLE" (by decide)
theorem TableRow.masterEnable (on : Bool) : TableRow.Statement (.masterEnable on) := by
  cases on <;> exact effectRow 4 7 0 3 _ 0xFFFE "MASTER_ENABLE" (by decide)
theorem TableRow.armTimer (period : Word) : TableRow.Statement (.armTimer period) := by
  have h : period &&& 0 = 0 := BitVec.and_zero
  exact effectRow 5 7 0 3 period 0 "ARM_TIMER" (by rw [h]; decide)

end Sys2Proof.Laws
end

