-- ==== Sys2Proof/Tests/Slice0.lean ====
section
/-!
SUPPORT. The model's own tests. Words and expected values are those of 95_test_vectors.md (its identifiers `V..`
stand in the comments) or worked out from the rule named; none was read off the model. The second half shows, for
every statement of Obligations.lean that has hypotheses, concrete states and operands that meet them, one for each
clause, at the clause's boundary where it has one.
-/

namespace Sys2Proof.Tests
open Sys2Proof.Machine

/-! ## Well-formedness: an ill-formed term for each check -/

theorem test_wf_port_event : Instr.wellFormedOn .effect (.tick 0) = false := by decide
theorem test_wf_port_effect : Instr.wellFormedOn .event (.armTimer 0) = false := by decide
theorem test_wf_row_off : PerPhase.noneOff ⟨.drivenHigh, .drivenLow, .off⟩ = false := by decide
theorem test_wf_row_high : PerPhase.oneHigh ⟨.drivenHigh, .drivenLow, .drivenHigh⟩ = false := by decide
theorem test_wf_row_low : PerPhase.oneLow ⟨.drivenLow, .drivenLow, .drivenHigh⟩ = false := by decide
theorem test_wf_row_float : PerPhase.oneFloat ⟨.floatRising, .floatFalling, .drivenHigh⟩ = false := by decide
theorem test_wf_row : ∀ r ∈ [(⟨.drivenHigh, .drivenLow, .off⟩ : PerPhase DriveState),
    ⟨.drivenHigh, .drivenHigh, .drivenLow⟩, ⟨.drivenLow, .floatRising, .drivenLow⟩,
    ⟨.floatRising, .drivenLow, .floatFalling⟩], r.legal = false := by decide
theorem test_wf_table :
    PhaseTable.legal { PhaseTable.std with s3 := ⟨.drivenLow, .drivenHigh, .drivenHigh⟩ } = false := by decide
theorem test_wf_periods : Cfg.periodsOrdered { Cfg.ex with highSpeedThreshold := 64 } = false := by decide
theorem test_wf_rampStep : Cfg.rampStepPositive { Cfg.ex with rampStep := 0 } = false := by decide
theorem test_wf_rampDuty : Cfg.dutiesBounded { Cfg.ex with rampDuty := 241 } = false := by decide
theorem test_wf_idleDuty : Cfg.dutiesBounded { Cfg.ex with idleDuty := 241 } = false := by decide
theorem test_wf_dutyGuard : Cfg.dutiesBounded { Cfg.ex with dutyGuard := 251 } = false := by decide
theorem test_wf_bucket : Cfg.bucketPositive { Cfg.ex with bucketCapacity := 0 } = false := by decide
theorem test_wf_stopThreshold : Cfg.commandRegions { Cfg.ex with cmdStopThreshold := 0 } = false := by decide
theorem test_wf_regions : Cfg.commandRegions { Cfg.ex with cmdStopThreshold := 12 } = false := by decide
theorem test_wf_adcW : Cfg.adcRange { Cfg.ex with adcW := 0 } = false ∧
    Cfg.adcRange { Cfg.ex with adcW := 15 } = false := by decide
theorem test_wf_halfBus : Cfg.adcRange { Cfg.ex with halfBusRef := 1024 } = false := by decide
theorem test_wf_manualStep : Cfg.manualStepPositive { Cfg.ex with manualStep := 0 } = false := by decide
theorem test_wf_tableLen : Cfg.tableFits { Cfg.ex with tct := List.replicate 65537 0 } = false := by
  unfold Cfg.tableFits Cfg.tableLen
  rw [List.length_replicate]
  decide
theorem test_wf_legal : Cfg.ex.legal = true := by decide
theorem test_wf_illegal : Cfg.legal { Cfg.ex with rampStep := 0 } = false ∧
    Cfg.legal { Cfg.ex with pt := { PhaseTable.std with s5 := everyPhase .off } } = false := by decide

/-! ## Decoding: every row, by the words of 95_test_vectors.md section 2.1 -/

theorem test_decode_tick : decodeEvent 0x002BC = .tick 700 ∧ decodeEvent 0x003FF = .tick 1023 := by decide
theorem test_decode_tick_high_bits : decodeEvent 0x0FEBC = .tick 0xFEBC ∧
    Cfg.ex.rawSample 0xFEBC = 700 := by decide
theorem test_decode_update : decodeEvent 0x10000 = .update ∧ decodeEvent 0x1FFFF = .update := by decide
theorem test_decode_startRamp : decodeEvent 0x20000 = .startRamp := by decide
theorem test_decode_stop : decodeEvent 0x30000 = .stop := by decide
theorem test_decode_setCmdDuty : decodeEvent 0x40030 = .setCmdDuty 48 ∧
    decodeEvent 0x4FFFF = .setCmdDuty 65535 := by decide
theorem test_decode_manSpdInc : decodeEvent 0x50000 = .manSpdInc := by decide
theorem test_decode_manSpdDec : decodeEvent 0x60000 = .manSpdDec := by decide
theorem test_decode_dutyInc : decodeEvent 0x70000 = .dutyInc := by decide
theorem test_decode_dutyDec : decodeEvent 0x80000 = .dutyDec := by decide
theorem test_decode_getDuty : decodeEvent 0x90000 = .getDuty := by decide
theorem test_decode_getPeriod : decodeEvent 0xA0000 = .getPeriod := by decide
theorem test_decode_getFault : decodeEvent 0xB0000 = .getFault := by decide
theorem test_decode_getVsys : decodeEvent 0xC0000 = .getVsys ∧ decodeEvent 0xCFFFF = .getVsys := by decide
theorem test_decode_getZc : decodeEvent 0xD0000 = .getZc := by decide
theorem test_decode_getState : decodeEvent 0xE0000 = .getState := by decide
theorem test_decode_reserved : decodeEvent 0xF0000 = .reservedF ∧ decodeEvent 0xF1234 = .reservedF ∧
    decodeEvent 0xFFFFF = .reservedF := by decide
theorem test_decode_pwmEnable : decode (.effect 0x010014) = .ok (.pwmEnable .b 20) ∧
    decode (.effect 0x0200F0) = .ok (.pwmEnable .c 240) ∧
    decode (.effect 0x000000) = .ok (.pwmEnable .a 0) := ⟨rfl, rfl, rfl⟩
theorem test_decode_pwmDisable : decode (.effect 0x050000) = .ok (.pwmDisable .b) := rfl
theorem test_decode_outputLow : decode (.effect 0x0A0000) = .ok (.outputLow .c) := rfl
theorem test_decode_hbEnable : decode (.effect 0x0D0001) = .ok (.hbEnable .b true) ∧
    decode (.effect 0x0E0000) = .ok (.hbEnable .c false) := ⟨rfl, rfl⟩
theorem test_decode_masterEnable : decode (.effect 0x100001) = .ok (.masterEnable true) ∧
    decode (.effect 0x100000) = .ok (.masterEnable false) := ⟨rfl, rfl⟩
theorem test_decode_armTimer : decode (.effect 0x140040) = .ok (.armTimer 64) := rfl
theorem test_decode_reject_eop : decode (.effect 0x180000) = .error .noSuchEffect ∧
    decode (.effect 0x1C0000) = .error .noSuchEffect := ⟨rfl, rfl⟩
theorem test_decode_reject_phase : decode (.effect 0x030014) = .error .noSuchPhase ∧
    decode (.effect 0x0F0001) = .error .noSuchPhase := ⟨rfl, rfl⟩
theorem test_decode_reject_unused : decode (.effect 0x040001) = .error .unusedFieldNotZero ∧
    decode (.effect 0x0C0002) = .error .unusedFieldNotZero ∧
    decode (.effect 0x110001) = .error .unusedFieldNotZero := ⟨rfl, rfl, rfl⟩
theorem test_encode_event : encode (.setCmdDuty 48) = .event 0x40030 ∧
    encode .getState = .event 0xE0000 := by decide
theorem test_encode_effect : encode (.hbEnable .c true) = .effect 0x0E0001 ∧
    encode (.armTimer 16) = .effect 0x140010 := by decide
theorem test_encode_response : Response.encode ⟨true, 0⟩ = 0x10000 ∧
    Response.encode ⟨false, 0xFF60⟩ = 0x0FF60 := by decide

theorem test_tableWord_event : decodeTableWord 20 0x40030 = some (.setCmdDuty 48) ∧
    decodeTableWord 24 0x40030 = some (.setCmdDuty 48) ∧ decodeTableWord 24 0x1FFFF = some .update := by decide
theorem test_tableWord_effect : decodeTableWord 21 0x040000 = some (.pwmDisable .a) ∧
    decodeTableWord 24 0x140040 = some (.armTimer 64) ∧ decodeTableWord 21 0x1C0000 = none := by decide

/-! ## States the vectors start from, all under `CFG_EX` -/

/-- `RunState = Off`, with the start pending or not. -/
def stopped (start : Bool) : State := { State.reset with startReq := start }

/-- `RunState = RampUp` at a period. -/
def ramping (period : Word) : State := { State.reset with runState := .rampUp, duty := 30, period := period }

/-- `RunState = On` at a duty, a period and a voltage, with the bucket full. -/
def onAt (duty period volts : Word) : State :=
  { State.reset with runState := .on, duty := duty, period := period, vbatt := volts, vsys := volts }

/-- `RunState = On` driving sector `n` with these modes and enables, about to take slot `idx`. -/
def driving (n : Fin 6) (idx : Fin 4) (modes : PerPhase OutMode) (enables : PerPhase Bool) : State :=
  { onAt 20 16 700 with
    sector := n, tickCounter := idx, prevSector := some n
    shadow := ⟨modes, ⟨20, 20, 0⟩, enables, true, 0⟩ }

/-- The state of V44-9: the end of sector 2. -/
def endOfTwo : State :=
  { driving 2 3 ⟨.idle, .pwm, .low⟩ ⟨false, true, true⟩ with work := ⟨300, 100, BitVec.ofInt 16 (-60), 0⟩ }

/-- The state of V44-11: the end of sector 0. -/
def endOfZero : State :=
  { driving 0 3 ⟨.pwm, .low, .idle⟩ ⟨true, true, false⟩ with shadow.pwmDuty := ⟨20, 0, 0⟩ }

/-- The state of V44-14: the first running tick after the posture, on slot 3 of sector 5. -/
def afterPosture : State := { ramping 40 with sector := 5, tickCounter := 3 }

/-- What a test looks at in the next state. -/
def sees {α : Type} (o : Host.Outcome State Fault Refusal) (look : State → α) : Option α := (nextState o).map look

/-! ## One or two vectors for each instruction -/

/-- V44-13: sector 5 wraps to 0, nothing is kept, the new high side gets the current duty. -/
theorem test_tick_wrap :
    sees (exec (.tick 400)
        { driving 5 3 ⟨.low, .low, .pwm⟩ ⟨false, true, true⟩ with duty := 25, vbatt := 690, shadow.pwmDuty := ⟨20, 20, 20⟩ })
      (fun t => (t.sector, t.work.s3.toInt, t.vbatt, t.shadow.pwmDuty, t.effects)) =
    some (0, -112, 690, ⟨25, 20, 20⟩,
      [.pwmDisable .c, .hbEnable .c false, .pwmEnable .a 25, .hbEnable .a true]) := by decide
/-- V44-9: the end of sector 2 archives the window. -/
theorem test_tick_qualify :
    sees (exec (.tick 262) endOfTwo)
      (fun t => ((t.qual.s3.toInt, t.zcIntegral, t.vbatt), t.prevSector == some 3, t.shadow.outMode, t.shadow.hbEn)) =
    some ((-250, 40, 700), true, ⟨.low, .pwm, .low⟩, ⟨true, true, false⟩) := by decide
/-- V42-8: latch and force in one update, the lookup then uses duty 0. -/
theorem test_update_fault :
    sees (exec .update { onAt 20 16 100 with bucket := 1 })
      (fun t => (t.bucket, t.faultFlag, t.duty, t.period, t.effects)) =
    some (0, true, 0, 17, [.armTimer 17]) := by decide
/-- V40-7: the end of the ramp, entered with the manual flag set. -/
theorem test_update_rampDone :
    sees (exec .update { ramping 20 with vbatt := 700, manualFlag := true })
      (fun t => (t.period, t.runState, t.vsys, t.manualFlag, t.duty)) =
    some (16, .on, 700, false, 20) := by decide
/-- V46-1. -/
theorem test_startRamp : sees (exec .startRamp State.reset) (fun t => (t.startReq, t.runState, t.effects)) =
    some (true, .off, []) := by decide
/-- V46-2. -/
theorem test_startRamp_ramping : sees (exec .startRamp (ramping 40)) (fun t => (t.startReq, t.period)) =
    some (false, 40) := by decide
/-- V46-4. -/
theorem test_stop : sees (exec .stop (onAt 20 17 700)) (fun t => (t.runState, t.duty, t.period, t.effects)) =
    some (.off, 20, 17, []) := by decide
/-- V46-6. -/
theorem test_stop_pending : sees (exec .stop (stopped true)) (fun t => t.startReq) = some false := by decide
/-- V45-26 and V45-22: one unit whatever the distance. -/
theorem test_setCmdDuty_nudge : sees (exec (.setCmdDuty 48) (onAt 20 17 700)) (·.duty) = some 21 ∧
    sees (exec (.setCmdDuty 11) (onAt 20 17 700)) (·.duty) = some 19 := by decide
/-- V45-9, V45-11, V45-13, V45-14: the boundaries of the regions. -/
theorem test_setCmdDuty_regions : sees (exec (.setCmdDuty 4) (stopped true)) (·.startReq) = some false ∧
    sees (exec (.setCmdDuty 5) (stopped true)) (·.startReq) = some true ∧
    sees (exec (.setCmdDuty 10) (stopped false)) (·.startReq) = some false ∧
    sees (exec (.setCmdDuty 11) (stopped false)) (·.startReq) = some true := by decide
/-- V46-10 and V46-11. -/
theorem test_manSpdInc :
    sees (exec .manSpdInc (onAt 20 17 700)) (fun t => (t.period, t.manualFlag, t.shadow.timerPeriod, t.effects)) =
      some (16, true, 0, []) ∧
    sees (exec .manSpdInc (onAt 20 0 700)) (·.period) = some 0 := by decide
/-- V46-8. -/
theorem test_manSpdInc_starts : sees (exec .manSpdInc State.reset) (fun t => (t.startReq, t.manualFlag, t.period)) =
    some (true, false, 64) := by decide
/-- V46-14 and V46-15. -/
theorem test_manSpdDec : sees (exec .manSpdDec (onAt 20 16 700)) (fun t => (t.period, t.manualFlag)) =
      some (17, true) ∧
    sees (exec .manSpdDec (onAt 20 65535 700)) (·.period) = some 65535 := by decide
/-- V46-12. -/
theorem test_manSpdDec_off : sees (exec .manSpdDec State.reset) (fun t => (t.startReq, t.manualFlag)) =
    some (false, false) := by decide
/-- V45-3 and V45-4. -/
theorem test_dutyInc : sees (exec .dutyInc (onAt 239 16 700)) (·.duty) = some 240 ∧
    sees (exec .dutyInc (onAt 240 16 700)) (·.duty) = some 240 := by decide
/-- V45-6 and V45-5. -/
theorem test_dutyDec : sees (exec .dutyDec (onAt 1 16 700)) (·.duty) = some 0 ∧
    sees (exec .dutyDec (onAt 0 16 700)) (·.duty) = some 0 := by decide
/-- The state of V46-16 to V46-21. -/
def readable : State :=
  { onAt 20 17 345 with faultFlag := true, zcIntegral := BitVec.ofInt 16 (-160) }
/-- V46-16. -/
theorem test_getDuty : sees (exec .getDuty readable) (·.response) = some (answer 20) := by decide
/-- V46-17. -/
theorem test_getPeriod : sees (exec .getPeriod readable) (·.response) = some (answer 17) := by decide
/-- V46-18. -/
theorem test_getFault : sees (exec .getFault readable) (·.response) = some (answer 1) := by decide
/-- V46-19. -/
theorem test_getVsys : sees (exec .getVsys readable) (·.response) = some (answer 345) := by decide
/-- V46-20. -/
theorem test_getZc : sees (exec .getZc readable) (·.response) = some (answer 0xFF60) := by decide
/-- V46-21. -/
theorem test_getState : sees (exec .getState readable) (·.response) = some (answer 2) := by decide
/-- V46-23. -/
theorem test_reservedF : sees (exec .reservedF readable) (fun t => (t.response, t.effects, t.duty)) =
    some (some ⟨true, 0⟩, [], 20) := by decide
/-- R147: the mode and the duty of one phase. -/
theorem test_pwmEnable : sees (exec (.pwmEnable .b 9) endOfZero) (fun t => (t.shadow.outMode, t.shadow.pwmDuty)) =
    some (⟨.pwm, .pwm, .idle⟩, ⟨20, 9, 0⟩) := by decide
/-- R148: the duty stands. -/
theorem test_pwmDisable : sees (exec (.pwmDisable .a) endOfZero) (fun t => (t.shadow.outMode, t.shadow.pwmDuty)) =
    some (⟨.idle, .low, .idle⟩, ⟨20, 0, 0⟩) := by decide
/-- R149: a PWM mode is displaced. -/
theorem test_outputLow : sees (exec (.outputLow .a) endOfZero) (fun t => (t.shadow.outMode, t.shadow.hbEn)) =
    some (⟨.low, .low, .idle⟩, ⟨true, true, false⟩) := by decide
/-- R150. -/
theorem test_hbEnable : sees (exec (.hbEnable .b false) endOfZero) (·.shadow.hbEn) =
    some ⟨true, false, false⟩ := by decide
/-- R151. -/
theorem test_masterEnable : sees (exec (.masterEnable false) endOfZero) (fun t => (t.shadow.masterEn, t.effects)) =
    some (false, [.masterEnable false]) := by decide
/-- R152. -/
theorem test_armTimer : sees (exec (.armTimer 0) endOfZero) (fun t => (t.shadow.timerPeriod, t.period)) =
    some (0, 16) := by decide

/-! ## A step -/

/-- V40-1 by `step`: the word of `UPDATE`, its ignored bits set, as the first operation after reset. -/
theorem test_step_update :
    sees (step (State.reset.withFetchWord 24 0x1FFFF)) (fun t => (t.runState, t.effects, t.ports.ack)) =
    some (.off, [.armTimer 64], some .background) := by decide
/-- An effect word alone, after reset. -/
theorem test_step_effect :
    sees (step (State.reset.withFetchWord 21 0x0200F0)) (fun t => (t.shadow.pwmDuty, t.response)) =
    some (⟨0, 0, 240⟩, none) := by decide

/-- Three requests pending at once, as in V60-1. -/
def threePending : State :=
  { endOfZero with ports := { Ports.quiet [] with tickReq := some 705, updReq := true, cmdReq := some 0x30000 } }
/-- V60-1: the tick is served first and the other two stay pending. -/
theorem test_step_arbiter :
    sees (step threePending) (fun t => (t.sector, t.ports)) =
    some (1, { threePending.ports with tickReq := none, ack := some .subSector }) := by decide

/-! ## Witnesses: the hypotheses of each statement are met, clause by clause -/

theorem test_witness_EffectWordsHaveOneSpelling : decodeEffect 0x0D0001 = .ok (.hbEnable .b true) := rfl
theorem test_witness_EventDecodingFollowsOperationMap : (⟨"RESERVED_F", 0xF0000, 0xF0000⟩ : Row 20) ∈ eventTable ∧
    Row.has ⟨"RESERVED_F", 0xF0000, 0xF0000⟩ (0xF1234 : EventWord) = true := by decide
theorem test_witness_EffectDecodingFollowsEffectMap : (⟨"ARM_TIMER", 0x140000, 0x1F0000⟩ : Row 21) ∈ effectTable ∧
    Row.has ⟨"ARM_TIMER", 0x140000, 0x1F0000⟩ (0x140040 : EffectWord) = true ∧
    Row.has ⟨"PWM_ENABLE", 0x000000, 0x1C0000⟩ (0x030014 : EffectWord) = true := by decide
theorem test_witness_IgnoredBitsSelectNothing : (0xF : BitVec 4) ≠ 0x0 ∧ (0xF : BitVec 4) ≠ 0x4 ∧
    (700 : Word).toNat % 2 ^ State.reset.cfg.adcW = (0xFEBC : Word).toNat % 2 ^ State.reset.cfg.adcW := by decide
theorem test_witness_StepRunsRequestedOperation : threePending.cfg.legal = true ∧
    threePending.ports.effectLine = none ∧ threePending.ports.resetAsserted = false ∧
    threePending.ports.arrive.tickReq = some 705 := by decide
theorem test_witness_StepRunsRequestedOperation_update :
    let s := { threePending with ports.tickReq := none }
    s.cfg.legal = true ∧ s.ports.effectLine = none ∧ s.ports.resetAsserted = false ∧
      s.ports.arrive.tickReq = none ∧ s.ports.arrive.updReq = true := by decide
theorem test_witness_StepRunsRequestedOperation_command :
    let s := { threePending with ports.tickReq := none, ports.updReq := false }
    s.cfg.legal = true ∧ s.ports.effectLine = none ∧ s.ports.resetAsserted = false ∧
      s.ports.arrive.tickReq = none ∧ s.ports.arrive.updReq = false ∧ s.ports.arrive.cmdReq = some 0x30000 ∧
      decodeEvent 0x30000 = .stop := by decide
theorem test_witness_PlacedWordIsRunNext : State.reset.cfg.legal = true ∧ Instr.port .update = .event ∧
    Instr.port (.armTimer 0) = .effect := by decide
theorem test_witness_PlacedWordIsRunNext_refused : decode (.effect 0x180000) = .error .noSuchEffect := rfl
theorem test_witness_RequestsMergeAndBlockWaits :
    Ports.schedule (.quiet [{ tick := some 705, upd := true }]) = { tick := some 705, upd := true } :: [] ∧
    State.reset.cfg.legal = true ∧ State.reset.ports.effectLine = none ∧
    State.reset.ports.resetAsserted = false ∧ State.reset.ports.arrive.tickReq = none ∧
    State.reset.ports.arrive.updReq = false ∧ State.reset.ports.arrive.cmdReq = none := by decide
theorem test_witness_ResetLoadsResetValues :
    let s := { endOfZero with ports := Ports.quiet [{ rst := true, tick := some 705 }] }
    s.cfg.legal = true ∧ s.ports.effectLine = none ∧
      s.ports.schedule = { rst := true, tick := some 705 } :: [] ∧
      Arrival.rst { rst := true, tick := some 705 } = true := by decide
theorem test_witness_OnlyIllegalConfigurationsStop :
    Cfg.legal (State.resetWith { Cfg.ex with manualStep := 0 }).cfg = false ∧
    State.reset.cfg.legal = true ∧ State.reset.ports.effectLine = none := by decide
theorem test_witness_StepKeepsConfiguration : (nextState (step threePending)).isSome = true := by decide

theorem test_witness_UpdateInOffResets : (stopped false).runState = .off ∧ (stopped false).startReq = false := by
  decide
/-- One step above the threshold's boundary, and one at it. -/
theorem test_witness_UpdateStartsRamp :
    let s (step : Word) : State := { stopped true with cfg.rampStep := step }
    ((s 47).runState = .off ∧ (s 47).startReq = true ∧
      (s 47).cfg.highSpeedThreshold.toNat < (s 47).cfg.lowSpeedPeriod.toNat - (s 47).cfg.rampStep.toNat) ∧
    (s 48).runState = .off ∧ (s 48).startReq = true ∧
      (s 48).cfg.lowSpeedPeriod.toNat - (s 48).cfg.rampStep.toNat ≤ (s 48).cfg.highSpeedThreshold.toNat := by decide
theorem test_witness_UpdateShortensRamp : (ramping 21).runState = .rampUp ∧
    (ramping 21).cfg.highSpeedThreshold.toNat < (ramping 21).period.toNat - (ramping 21).cfg.rampStep.toNat := by
  decide
theorem test_witness_UpdateEndsRamp : (ramping 20).runState = .rampUp ∧
    (ramping 20).period.toNat - (ramping 20).cfg.rampStep.toNat ≤ (ramping 20).cfg.highSpeedThreshold.toNat ∧
    (ramping 20).RampInv := ⟨by decide, by decide, fun _ => by decide⟩
/-- The average at the threshold and just below it (V42-3, V42-4), with the bucket below and at its capacity. -/
theorem test_witness_UpdateInOnRunsItsSteps :
    sees (exec .update { onAt 20 16 300 with bucket := 24 }) (fun t => (t.vsys, t.bucket)) = some (300, 25) ∧
    sees (exec .update { onAt 20 16 300 with bucket := 25 }) (fun t => (t.vsys, t.bucket)) = some (300, 25) ∧
    sees (exec .update { onAt 20 16 300 with vbatt := 299 }) (fun t => (t.vsys, t.bucket)) = some (299, 24) ∧
    Cfg.ex.vShutdownThreshold = 300 ∧ (onAt 20 16 300).runState = .on := by decide
/-- The table's last index and the first outside it; the period below, above and at the entry; manual mode. -/
theorem test_witness_UpdateInOnRunsItsSteps_lookup :
    (onAt 31 16 700).cfg.tct[(31 : Word).toNat]? = some 9 ∧ (onAt 32 16 700).cfg.tableLen ≤ (32 : Word).toNat ∧
    (onAt 20 16 700).cfg.tct[(20 : Word).toNat]? = some 20 ∧ (onAt 20 20 700).period = 20 ∧
    (onAt 20 16 700).manualFlag = false ∧ State.manualFlag { onAt 20 16 700 with manualFlag := true } = true := by
  decide
theorem test_witness_UpdateRearmsTimerOnce : ((Instr.manSpdInc = .manSpdInc ∨ Instr.manSpdInc = .manSpdDec) ∧
    (Instr.manSpdDec = .manSpdInc ∨ Instr.manSpdDec = .manSpdDec)) ∧ (onAt 20 17 700).runState = .on := by decide
/-- V42-5 and V42-4: one below and one above, and a step each way. -/
theorem test_witness_VoltageAverageMovesTowardEstimate :
    let s (vsys vbatt : Word) : State := { onAt 20 16 0 with vsys := vsys, vbatt := vbatt }
    (s 299 300).runState = .on ∧ (s 299 300).vbatt.toNat = (s 299 300).vsys.toNat + 1 ∧
      (s 300 299).vsys.toNat = (s 300 299).vbatt.toNat + 1 ∧ (s 299 300).vsys.toNat ≤ (s 299 300).vbatt.toNat ∧
      (s 300 299).vbatt.toNat ≤ (s 300 299).vsys.toNat := by decide
theorem test_witness_BucketMovesByOne :
    let s (bucket vbatt : Word) : State := { onAt 20 16 300 with bucket := bucket, vbatt := vbatt }
    ((s 0 299).runState = .on ∧ (s 0 299).bucket.toNat ≤ (s 0 299).cfg.bucketCapacity.toNat ∧
      (s 25 300).bucket.toNat ≤ (s 25 300).cfg.bucketCapacity.toNat) ∧
    sees (exec .update (s 0 299)) (fun t => (t.vsys, t.bucket)) = some (299, 0) ∧
    sees (exec .update (s 25 300)) (fun t => (t.vsys, t.bucket)) = some (300, 25) := by decide
theorem test_witness_FaultRaisedOnlyByUpdateInOn : (onAt 20 16 100).faultFlag = false ∧
    sees (exec .update { onAt 20 16 100 with bucket := 1 }) (·.faultFlag) = some true := by decide
theorem test_witness_FaultEndsOnlyByUpdateInOff :
    let s : State := { stopped false with bucket := 0, faultFlag := true }
    s.runState = .off ∧ s.faultFlag = true ∧ sees (exec .update s) (·.faultFlag) = some false := by decide
theorem test_witness_FaultForcesDutyZero : (onAt 20 16 100).runState = .on ∧
    sees (exec .update { onAt 20 16 100 with bucket := 1 }) (·.bucket) = some 0 := by decide
/-- Manual mode; the first duty outside the table; an empty table; and another table as long. -/
theorem test_witness_LookupSkipped : (onAt 32 16 700).runState = .on ∧
    sees (exec .update (onAt 32 16 700)) (fun t => decide ((onAt 32 16 700).cfg.tableLen ≤ t.duty.toNat)) =
      some true ∧
    State.manualFlag { onAt 20 16 700 with manualFlag := true } = true ∧
    Cfg.tableLen { Cfg.ex with tct := [] } = 0 ∧ (List.replicate 32 (0 : Word)).length = Cfg.ex.tct.length := by decide
/-- V41-1, V41-2, V41-3, V41-5; and an update in `RampUp`. -/
theorem test_witness_TimingCorrectionStepsPeriod : (onAt 20 16 700).runState = .on ∧
    (onAt 20 16 700).manualFlag = false ∧
    sees (exec .update (onAt 20 16 700)) (fun t => ((onAt 20 16 700).cfg.tct[t.duty.toNat]?, t.period)) =
      some (some 20, 17) ∧
    sees (exec .update (onAt 20 25 700)) (·.period) = some 24 ∧
    sees (exec .update (onAt 20 20 700)) (·.period) = some 20 ∧
    sees (exec .update (onAt 32 16 700)) (fun t => (t.duty, t.period)) = some (32, 16) ∧
    (ramping 40).runState ≠ .on := by decide
/-- The 11th update and the 12th, the ramp's length under `CFG_EX`. -/
theorem test_witness_RampTakesItsLengthInUpdates : (stopped true).cfg.legal = true ∧
    (stopped true).runState = .off ∧ (stopped true).startReq = true ∧ rampLength Cfg.ex = 12 ∧
    (∀ i ∈ List.replicate 11 Instr.update, i.stops Cfg.ex = false) ∧
    updates (List.replicate 10 .update) + 1 < rampLength Cfg.ex ∧
    updates (List.replicate 11 .update) + 1 = rampLength Cfg.ex := by decide
/-- A transition of each kind. -/
theorem test_witness_RunStateTransitions :
    sees (exec .update (stopped true)) (·.runState) = some .rampUp ∧
    sees (exec .update { stopped true with cfg.rampStep := 48 }) (·.runState) = some .on ∧
    sees (exec .update (ramping 20)) (·.runState) = some .on ∧
    sees (exec (.setCmdDuty 4) (onAt 20 17 700)) (·.runState) = some .off ∧
    Instr.stops Cfg.ex (.setCmdDuty 4) = true ∧ Instr.stops Cfg.ex (.setCmdDuty 5) = false := by decide

theorem test_witness_TickInOffAssertsPosture : (stopped false).runState = .off := by decide
theorem test_witness_TickStoresSample : (driving 2 2 ⟨.idle, .pwm, .low⟩ ⟨false, true, true⟩).cfg.legal = true ∧
    (driving 2 2 ⟨.idle, .pwm, .low⟩ ⟨false, true, true⟩).running ∧
    (driving 2 2 ⟨.idle, .pwm, .low⟩ ⟨false, true, true⟩).tickCounter ≠ 3 := by decide
theorem test_witness_TickEndsSector : endOfTwo.cfg.legal = true ∧ endOfTwo.running ∧ endOfTwo.tickCounter = 3 := by
  decide
/-- The fourth slot in a sector of each class of phase A: falling, high, low, rising. -/
theorem test_witness_FourthSlotQualifies_classes : (Cfg.ex.pt.row 2).a = .floatFalling ∧
    (Cfg.ex.pt.row 0).a = .drivenHigh ∧ (Cfg.ex.pt.row 3).a = .drivenLow ∧ (Cfg.ex.pt.row 5).a = .floatRising := by
  decide

/-- The invariants of R43 at `endOfTwo`. -/
theorem endOfTwo_inv : endOfTwo.Inv where
  legal := by decide
  prevSector := by decide
  bucket := by decide
  duty := by decide
  startReq := by decide
  vbatt := by decide
  vsys := by decide
  work := by
    unfold Slots.within
    decide
  qual := by
    unfold Slots.within
    decide
  zcIntegral := by decide
/-- The invariants of R43 while ramping. -/
theorem ramping_inv : (ramping 17).Inv where
  legal := by decide
  prevSector := by decide
  bucket := by decide
  duty := by decide
  startReq := by decide
  vbatt := by decide
  vsys := by decide
  work := by
    unfold Slots.within
    decide
  qual := by
    unfold Slots.within
    decide
  zcIntegral := by decide
/-- The same at the end of any sector, none configured. -/
theorem rampingEnd_inv (n : Fin 6) : State.Inv { ramping 17 with sector := n, tickCounter := 3 } :=
  ⟨ramping_inv.legal, (fun _ h => nomatch h), ramping_inv.bucket, ramping_inv.duty, ramping_inv.startReq,
    ramping_inv.vbatt, ramping_inv.vsys, ramping_inv.work, ramping_inv.qual, ramping_inv.zcIntegral⟩
/-- The outputs at `endOfZero` are those of sector 0. -/
theorem endOfZero_matched : endOfZero.OutputsMatch where
  configured := by
    intro p h
    have hp : p = 0 := (Option.some.inj h).symm
    subst hp
    refine ⟨?_, rfl⟩
    intro q
    cases q <;> decide
  released := fun h => absurd h (by decide)
  noLine := rfl
/-- The outputs after the posture: none configured. -/
theorem afterPosture_matched : afterPosture.OutputsMatch where
  configured := by
    intro p h
    exact absurd h (by simp [afterPosture, ramping, State.reset, State.resetWith])
  released := by
    intro _ p
    cases p <;> rfl
  noLine := rfl

theorem test_witness_FourthSlotQualifies : endOfTwo.Inv ∧ endOfTwo.running ∧ endOfTwo.tickCounter = 3 ∧
    ∀ n, State.Inv { ramping 17 with sector := n, tickCounter := 3 } ∧
      State.running { ramping 17 with sector := n, tickCounter := 3 } :=
  ⟨endOfTwo_inv, by decide, rfl, fun n => ⟨rampingEnd_inv n, by show RunState.rampUp ≠ .off; decide⟩⟩
theorem test_witness_SectorAdvancesModSix : endOfTwo.running ∧ endOfTwo.tickCounter = 3 ∧
    sees (exec (.tick 262) endOfTwo) (·.sector) = some 3 ∧ ([1, 2, 3, 4] : List Word).length = 4 * 1 := by decide

/-- A phase from high to floating, and one from high to low. -/
theorem test_witness_LeavingHighDisablesPwmFirst :
    let prev : PerPhase DriveState := ⟨.drivenHigh, .drivenHigh, .drivenLow⟩
    let next : PerPhase DriveState := ⟨.floatFalling, .drivenLow, .drivenHigh⟩
    prev.get .a = .drivenHigh ∧ (next.get .a).isFloat = true ∧ prev.get .b = .drivenHigh ∧
      next.get .b = .drivenLow := by decide
theorem test_witness_NewlyFloatingIsReleased : (PhaseTable.std.row 2).legal = true ∧
    Effect.hbEnable .a false ∈ switchWords 20 (PhaseTable.std.row 1) (PhaseTable.std.row 2) := by decide
theorem test_witness_NewlyLowIsAssertedThenEnabled : (PhaseTable.std.row 1).legal = true ∧
    Effect.outputLow .c ∈ switchWords 20 (PhaseTable.std.row 0) (PhaseTable.std.row 1) := by decide
theorem test_witness_NewlyHighGetsCurrentDuty : (PhaseTable.std.row 2).legal = true ∧
    Effect.pwmEnable .b 20 ∈ switchWords 20 (PhaseTable.std.row 1) (PhaseTable.std.row 2) ∧
    (PhaseTable.std.row 0).get .a = .drivenHigh ∧ (PhaseTable.std.row 1).get .a = .drivenHigh ∧
    endOfTwo.running ∧ endOfTwo.tickCounter = 3 := by decide
/-- A legal table in which a switch needs six words, and `CFG_EX`. -/
theorem test_witness_SwitchEmitsFewWords : State.reset.cfg.legal = true ∧
    (switchWords 20 ⟨.drivenHigh, .drivenLow, .floatRising⟩ ⟨.floatRising, .drivenHigh, .drivenLow⟩).length = 6 := by
  decide

theorem test_witness_ShadowsFollowTheEmittedWords : (nextState (exec .stop endOfZero)).isSome = true ∧
    Instr.isEvent .stop = true ∧ Instr.stop ≠ .update ∧ ∀ arg, Instr.stop ≠ .tick arg :=
  ⟨by decide, by decide, by decide, fun _ h => nomatch h⟩
theorem test_witness_ShadowsFollowTheEmittedWords_arm : Instr.isEvent .update = true ∧
    sees (exec .update endOfZero) (fun t => decide (Effect.armTimer 17 ∈ t.effects)) = some true := by decide
theorem test_witness_StepKeepsOutputsMatched : endOfZero.OutputsMatch ∧ afterPosture.OutputsMatch ∧
    (nextState (step endOfZero)).isSome = true ∧ (nextState (step afterPosture)).isSome = true :=
  ⟨endOfZero_matched, afterPosture_matched, by decide, by decide⟩
theorem test_witness_NeverTwoPhasesHigh : endOfZero.cfg.legal = true ∧ endOfZero.OutputsMatch ∧
    Instr.isEvent (.tick 705) = true ∧ endOfZero.prevSector = some 0 ∧
    sees (exec (.tick 705) endOfZero) (fun t => (t.prevSector, t.effects.length)) = some (some 1, 3) :=
  ⟨by decide, endOfZero_matched, by decide, rfl, by decide⟩
theorem test_witness_NeverTwoPhasesHigh_none : afterPosture.cfg.legal = true ∧ afterPosture.OutputsMatch ∧
    afterPosture.prevSector = none ∧
    sees (exec (.tick 400) afterPosture) (fun t => (t.prevSector, t.effects.length)) = some (some 0, 6) :=
  ⟨by decide, afterPosture_matched, rfl, by decide⟩
theorem test_witness_SwitchDrivesOneHighOneLow :
    (endOfZero.cfg.legal = true ∧ endOfZero.OutputsMatch ∧ endOfZero.running ∧ endOfZero.tickCounter = 3) ∧
    afterPosture.cfg.legal = true ∧ afterPosture.OutputsMatch ∧ afterPosture.running ∧
      afterPosture.tickCounter = 3 :=
  ⟨⟨by decide, endOfZero_matched, by decide, rfl⟩, by decide, afterPosture_matched, by decide, rfl⟩
theorem test_witness_StepKeepsInvariants : endOfTwo.Inv ∧ endOfTwo.RampInv ∧
    State.Inv { ramping 17 with sector := 5, tickCounter := 3 } ∧
    State.RampInv { ramping 17 with sector := 5, tickCounter := 3 } ∧ (nextState (step endOfTwo)).isSome = true :=
  ⟨endOfTwo_inv, fun h => absurd h (by decide), rampingEnd_inv 5, fun _ => by decide, by decide⟩
theorem test_witness_InvariantsAtReset : Cfg.ex.legal = true := by decide
theorem test_witness_RegistersHaveTheirWriters : Instr.isEvent .dutyInc = true ∧
    (nextState (exec .dutyInc endOfZero)).isSome = true ∧ Instr.dutyInc ≠ .update ∧
    Instr.stops Cfg.ex .dutyInc = false := by decide

theorem test_witness_StartRampOnlyRequests : (stopped false).runState = .off ∧ (ramping 40).running ∧
    (onAt 20 17 700).running := by decide
/-- The least value of the run region in each run state; the largest of the stop region; both ends of the dead band;
the duty below, at and above the command, and at the guard. -/
theorem test_witness_SetCmdDutyRegions :
    (Cfg.ex.legal = true ∧ Cfg.ex.cmdStartThreshold.toNat < (11 : Word).toNat ∧
      (4 : Word).toNat < Cfg.ex.cmdStopThreshold.toNat ∧ Cfg.ex.cmdStopThreshold.toNat ≤ (5 : Word).toNat ∧
      (10 : Word).toNat ≤ Cfg.ex.cmdStartThreshold.toNat) ∧
    ((stopped false).runState = .off ∧ (ramping 40).runState = .rampUp ∧ (onAt 20 17 700).runState = .on) ∧
    (onAt 20 17 700).duty.toNat < (21 : Word).toNat ∧ (11 : Word).toNat < (onAt 20 17 700).duty.toNat ∧
    (onAt 20 17 700).duty = 20 ∧ Cfg.ex.dutyGuard.toNat ≤ (onAt 240 17 700).duty.toNat ∧
    (onAt 239 17 700).duty.toNat < Cfg.ex.dutyGuard.toNat := by decide
theorem test_witness_ManualStepsBiasPeriod : (stopped false).runState = .off ∧ (ramping 40).runState = .rampUp ∧
    (onAt 20 0 700).runState = .on := by decide
/-- Inside the bounds, at the guard and at 0. -/
theorem test_witness_DutyNeverPassesGuard : (onAt 240 17 700).cfg.legal = true ∧
    (onAt 240 17 700).duty = (onAt 240 17 700).cfg.dutyGuard ∧
    (onAt 239 17 700).duty.toNat < (onAt 239 17 700).cfg.dutyGuard.toNat ∧ (onAt 0 17 700).duty = 0 ∧
    1 ≤ Cfg.ex.dutyGuard.toNat ∧ (onAt 20 17 700).duty ≠ 0 ∧
    (nextState (runOps [.dutyInc, .update] (onAt 240 17 700))).isSome = true := by decide
theorem test_witness_ReadsAnswerTheirRegister : endOfTwo.Inv := endOfTwo_inv
/-- One update in `On` short of the capacity, the ramp's updates not counted; and the sagged start of the last
clause. -/
theorem test_witness_FaultNeedsSustainedSag :
    let s : State := { ramping 20 with cfg.bucketCapacity := 2, bucket := 2 }
    (s.bucket = s.cfg.bucketCapacity ∧ s.faultFlag = false ∧
      updatesInOn [.update, .update, .dutyInc] s + 1 = s.cfg.bucketCapacity.toNat ∧
      (nextState (runOps [.update, .update, .dutyInc] s)).isSome = true) ∧
    (onAt 20 16 299).cfg.legal = true ∧ (onAt 20 16 299).runState = .on ∧
    (onAt 20 16 299).bucket = (onAt 20 16 299).cfg.bucketCapacity ∧
    (onAt 20 16 299).vsys.toNat < (onAt 20 16 299).cfg.vShutdownThreshold.toNat ∧
    (onAt 20 16 299).vbatt.toNat < (onAt 20 16 299).cfg.vShutdownThreshold.toNat := by decide

/-- The end of sector 0 on a sagging supply, with a bucket of two. -/
def sagging : State := { endOfZero with cfg.bucketCapacity := 2, bucket := 2, vbatt := 700, vsys := 100 }

/-- A tick that brings a low estimate, an update, a command, and the update that sets the flag. -/
theorem test_witness_FaultNeedsSustainedSag_between :
    (sagging.runState = .on ∧ sagging.bucket = sagging.cfg.bucketCapacity ∧
      (∀ i ∈ [Instr.tick 250, .update, .dutyInc], i.stops sagging.cfg = false) ∧
      sagging.cfg.bucketCapacity.toNat ≤ updates [.tick 250, .update, .dutyInc] + 1) ∧
    ∀ (pre : List Instr) (u : State), pre ++ [.update] <+: [.tick 250, .update, .dutyInc] ++ [.update] →
      runOps (pre ++ [.update]) sagging = .next u →
      u.vsys.toNat < sagging.cfg.vShutdownThreshold.toNat := by
  refine ⟨by decide, ?_⟩
  intro pre u hp hu
  have all : ∀ l ∈ List.inits [Instr.tick 250, .update, .dutyInc, .update],
      (nextState (runOps l sagging)).all (fun t => decide (t.vsys.toNat < 300)) = true := by decide
  have := all _ ((List.mem_inits _ _).mpr hp)
  rw [hu] at this
  exact of_decide_eq_true this
theorem test_witness_FaultHoldsUntilStop : readable.runState = .on ∧ readable.faultFlag = true ∧
    ∀ i ∈ [Instr.dutyInc, .update, .tick 200, .setCmdDuty 48], i.stops readable.cfg = false := by decide

end Sys2Proof.Tests
end

section
/-!
PROOF of R106. `UPDATE` is its branch and then one `ARM_TIMER`; no branch touches the effect list or the shadows. A
manual step in `On` leaves `ManualFlag` set, and manual mode skips the lookup (R120), so the period it leaves is the
period the next `UPDATE` arms.
-/

namespace Sys2Proof.Machine

/-! ## UPDATE: the branch, then the timer -/

/-- The shape of R100 and R106 together. -/
theorem exec_update (s : State) :
    exec .update s = .next (s.begin.updateBranch.emit (.armTimer s.begin.updateBranch.period)) := rfl

@[simp] theorem State.updateBranch_effects (s : State) : s.updateBranch.effects = s.effects := by
  rw [s.updateBranch_frame]

@[simp] theorem State.updateBranch_shadow (s : State) : s.updateBranch.shadow = s.shadow := by
  rw [s.updateBranch_frame]

theorem State.updateBranch_of_on {s : State} (h : s.runState = .on) : s.updateBranch = s.onStep := by
  simp only [State.updateBranch, h]

/-- Only the timing correction writes the period in `On`, and in manual mode it does not (R120). -/
theorem State.onStep_period_of_manual {s : State} (h : s.manualFlag = true) : s.onStep.period = s.period := by
  simp [State.onStep, State.timingCorrect_eq, State.faultForce_eq, State.faultLatch_eq, State.bucketStep_eq, h]

/-- Once for both clauses of R106: `ARM_TIMER` with the period left, alone, and its shadow. -/
theorem exec_update_arms (s : State) : ∃ t, exec .update s = .next t ∧ t.effects = [.armTimer t.period] ∧
    t.shadow = { s.shadow with timerPeriod := t.period } :=
  ⟨_, exec_update s, by simp, by simp [Shadow.apply]⟩

theorem exec_update_keeps_manual_period {s t : State} (hon : s.runState = .on) (hman : s.manualFlag = true)
    (h : exec .update s = .next t) : t.period = s.period := by
  rw [exec_update, State.updateBranch_of_on (s := s.begin) hon] at h
  cases h
  exact State.onStep_period_of_manual hman

/-! ## The manual steps -/

/-- The manual steps run in every run state without a word or a shadow, and in `On` they leave the machine in `On`
and in manual mode (R194, R195). -/
theorem exec_manualStep {i : Instr} (hi : i = .manSpdInc ∨ i = .manSpdDec) (s : State) :
    ∃ t, exec i s = .next t ∧ t.effects = [] ∧ t.shadow = s.shadow ∧
      (s.runState = .on → t.runState = .on ∧ t.manualFlag = true) := by
  rcases hi with rfl | rfl
  · cases hr : s.runState with
    | off => exact ⟨s.begin.requestStart, by simp [exec, execManSpdInc, hr], rfl, rfl, nofun⟩
    | rampUp => exact ⟨s.begin, by simp [exec, execManSpdInc, hr], rfl, rfl, nofun⟩
    | on =>
      exact ⟨{ s.begin.setManual with period := satSub s.period s.cfg.manualStep },
        by simp [exec, execManSpdInc, hr], rfl, rfl, fun _ => ⟨hr, rfl⟩⟩
  · cases hr : s.runState with
    | off | rampUp => exact ⟨s.begin, by simp [exec, execManSpdDec, hr], rfl, rfl, nofun⟩
    | on =>
      exact ⟨{ s.begin.setManual with period := satAdd s.period s.cfg.manualStep },
        by simp [exec, execManSpdDec, hr], rfl, rfl, fun _ => ⟨hr, rfl⟩⟩

/-- Settles O20: the first clause is the shape of `UPDATE`; in the second, the manual step's own `ManualFlag` keeps
the lookup from moving the period before it is armed. -/
theorem updateRearmsTimerOnce : Obligations.UpdateRearmsTimerOnce := by
  refine ⟨exec_update_arms, fun i s hi => ?_⟩
  obtain ⟨t, ht, heff, hsh, hon⟩ := exec_manualStep hi s
  refine ⟨t, ht, heff, hsh, fun hr => ?_⟩
  obtain ⟨htOn, htMan⟩ := hon hr
  obtain ⟨u, hu, -, hush⟩ := exec_update_arms t
  have hp : u.period = t.period := exec_update_keeps_manual_period htOn htMan hu
  exact ⟨u, hu, by rw [hush, hp]⟩

end Sys2Proof.Machine
end

section
/-!
PROOF of R120 and R123. The lookup is the last step of `UPDATE` in `On`, so all that is said of it is said of
`timing_correct` after the fault force: where it is skipped it is the identity, where it is not the period takes one
`stepToward`. "No entry is read" and "no lookup is made" are one statement, that `UPDATE` commutes with replacing the
table.
-/

namespace Sys2Proof.Machine

/-! ## The state the lookup finds -/

/-- `on_step()` up to and with the fault force (R107): what `timing_correct()` runs on. -/
def State.forced (s : State) : State := s.vsysAverage.bucketStep.faultLatch.faultForce

theorem State.onStep_eq_timingCorrect_forced (s : State) : s.onStep = s.forced.timingCorrect := rfl

@[simp] theorem State.forced_cfg (s : State) : s.forced.cfg = s.cfg := by
  simp only [forced, faultForce_eq, faultLatch_eq, bucketStep_eq, vsysAverage_cfg]

@[simp] theorem State.forced_manualFlag (s : State) : s.forced.manualFlag = s.manualFlag := by
  simp only [forced, faultForce_eq, faultLatch_eq, bucketStep_eq, vsysAverage_manualFlag]

@[simp] theorem State.forced_period (s : State) : s.forced.period = s.period := by
  simp only [forced, faultForce_eq, faultLatch_eq, bucketStep_eq, vsysAverage_period]

@[simp] theorem State.timingCorrect_duty (s : State) : s.timingCorrect.duty = s.duty := by
  rw [timingCorrect_eq]

@[simp] theorem State.onStep_duty (s : State) : s.onStep.duty = s.forced.duty := by
  rw [onStep_eq_timingCorrect_forced, timingCorrect_duty]

/-! ## When the lookup is skipped, and when it is not -/

/-- The lookup reads no entry: manual mode, or a duty outside the table (R123 a, b). -/
def State.SkipsLookup (s : State) : Prop := s.manualFlag = true ∨ s.cfg.tableLen ≤ s.duty.toNat

theorem State.timingCorrect_of_skipsLookup {s : State} (h : s.SkipsLookup) : s.timingCorrect = s := by
  rw [timingCorrect_eq]
  rcases h with hman | hout
  · rw [if_pos hman]
  · simp only [List.getElem?_eq_none hout, Option.elim_none, ite_self]

/-- In the terms of the obligations: the registers at entry, and the duty the update leaves. -/
theorem State.forced_skipsLookup_iff (s : State) :
    s.forced.SkipsLookup ↔ s.manualFlag = true ∨ s.cfg.tableLen ≤ s.onStep.duty.toNat := by
  rw [SkipsLookup, forced_manualFlag, forced_cfg, onStep_duty]

theorem State.onStep_of_skipsLookup {s : State} (h : s.forced.SkipsLookup) : s.onStep = s.forced :=
  timingCorrect_of_skipsLookup h

theorem State.onStep_period_of_skipsLookup {s : State} (h : s.forced.SkipsLookup) :
    s.onStep.period = s.period := by
  rw [onStep_of_skipsLookup h, forced_period]

theorem State.onStep_period_of_entry {s : State} {e : Word} (hman : s.manualFlag = false)
    (he : s.cfg.tct[s.forced.duty.toNat]? = some e) : s.onStep.period = stepToward s.period e := by
  rw [onStep_eq_timingCorrect_forced, timingCorrect_eq]
  simp [hman, he]

/-! ## Another table -/

/-- The machine with another timing-correction table. -/
def State.withTable (s : State) (l : List Word) : State := { s with cfg := { s.cfg with tct := l } }

theorem State.forced_withTable (s : State) (l : List Word) :
    (s.withTable l).forced = s.forced.withTable l := by
  simp only [forced, faultForce_eq, faultLatch_eq, bucketStep_eq, vsysAverage, withTable]

/-- Whether the lookup is skipped is decided by the table's length alone. -/
theorem State.SkipsLookup.withTable {s : State} (h : s.SkipsLookup) {l : List Word}
    (hl : l.length = s.cfg.tct.length) : (s.withTable l).SkipsLookup :=
  h.imp_right fun hout => hl.trans_le hout

theorem State.onStep_withTable_of_skipsLookup {s : State} (h : s.forced.SkipsLookup) {l : List Word}
    (hl : l.length = s.cfg.tct.length) : (s.withTable l).onStep = s.onStep.withTable l := by
  have hskip : (s.withTable l).forced.SkipsLookup := by
    rw [forced_withTable]
    exact h.withTable (by rw [forced_cfg, hl])
  rw [onStep_of_skipsLookup hskip, onStep_of_skipsLookup h, forced_withTable]

theorem State.rampStep_withTable (s : State) (l : List Word) :
    (s.withTable l).rampStep = s.rampStep.withTable l := by
  simp only [rampStep_eq, withTable]
  split <;> rfl

/-- The branches of `Off` and `RampUp` make no lookup. -/
theorem State.updateBranch_withTable_of_not_on {s : State} (h : s.runState ≠ .on) (l : List Word) :
    (s.withTable l).updateBranch = s.updateBranch.withTable l := by
  have hr : (s.withTable l).runState = s.runState := rfl
  cases hs : s.runState with
  | off =>
    simp only [updateBranch, hr, hs]
    by_cases hreq : s.offStep.startReq = true
    · rw [if_pos hreq, ← rampStep_withTable]
      exact if_pos hreq
    · rw [if_neg hreq]
      exact if_neg hreq
  | rampUp => simp only [updateBranch, hr, hs, rampStep_withTable]
  | on => exact absurd hs h

@[simp] theorem State.updateBranch_cfg (s : State) : s.updateBranch.cfg = s.cfg := by
  rw [s.updateBranch_frame]

/-- What the branch makes of another table is what `UPDATE` makes of it: the timer is armed with the period alone. -/
theorem exec_update_withTable {s t : State} {l : List Word} (ht : exec .update s = .next t)
    (h : (s.begin.withTable l).updateBranch = s.begin.updateBranch.withTable l) :
    exec .update (s.withTable l) = .next { t with cfg := { s.cfg with tct := l } } := by
  have hbegin : (s.withTable l).begin = s.begin.withTable l := rfl
  rw [exec_update] at ht
  cases ht
  rw [exec_update, hbegin, h, State.withTable, State.updateBranch_cfg, State.begin_cfg]
  rfl

/-! ## UPDATE in `On` -/

/-- `UPDATE` in `On` is `on_step()`, then the timer armed with the period it left (R100, R106). -/
theorem exec_update_of_on {s : State} (h : s.runState = .on) :
    exec .update s = .next (s.begin.onStep.emit (.armTimer s.begin.onStep.period)) := by
  rw [exec_update, State.updateBranch_of_on (s := s.begin) h]

/-- Settles O26: an empty table is the case of a duty outside the table; where the lookup is skipped `timing_correct`
is the identity, under this table and under any as long. -/
theorem lookupSkipped : Obligations.LookupSkipped := by
  intro s hon
  obtain ⟨t, ht, heff, -⟩ := exec_update_arms s
  refine ⟨t, ht, fun h => ?_⟩
  have htOn : t = s.begin.onStep.emit (.armTimer s.begin.onStep.period) := by
    rw [exec_update_of_on hon] at ht
    cases ht
    rfl
  have hskip : s.begin.forced.SkipsLookup := by
    rw [State.forced_skipsLookup_iff]
    rw [htOn] at h
    rcases h with hman | hout | hempty
    · exact .inl hman
    · exact .inr hout
    · exact .inr (hempty.trans_le (Nat.zero_le _))
  have hperiod : t.period = s.period := by
    rw [htOn]
    exact State.onStep_period_of_skipsLookup hskip
  refine ⟨hperiod, hperiod ▸ heff, fun l hl => exec_update_withTable ht ?_⟩
  rw [State.updateBranch_of_on (s := s.begin) hon, State.updateBranch_of_on (s := s.begin.withTable l) hon]
  exact State.onStep_withTable_of_skipsLookup hskip hl

/-- Settles O27: in `On` the period takes one `stepToward` of the entry, or stands where the lookup is skipped; the
branches of `Off` and `RampUp` commute with replacing the table. -/
theorem timingCorrectionStepsPeriod : Obligations.TimingCorrectionStepsPeriod := by
  refine ⟨fun s hon => ⟨_, exec_update_of_on hon, fun e hman he => ?_, fun h => ?_⟩,
    fun s hoff => ⟨_, exec_update s, fun l => exec_update_withTable (exec_update s) ?_⟩⟩
  · rw [State.emit_duty, State.onStep_duty] at he
    rw [State.emit_period, State.onStep_period_of_entry (s := s.begin) hman he, State.begin_period]
    refine ⟨stepToward_up, fun hlt => ?_, ?_⟩
    · rw [stepToward_down hlt]
      omega
    · rintro rfl
      exact stepToward_self s.period
  · exact State.onStep_period_of_skipsLookup (s.begin.forced_skipsLookup_iff.mpr h)
  · exact State.updateBranch_withTable_of_not_on (s := s.begin) hoff l

end Sys2Proof.Machine
end

section
/-!
PROOF of R132 and R134. `on_step()` runs the bucket, the latch and the force in this order, each on what the one before
left, and no later step writes the average, the bucket or the flag. So the averaged voltage the bucket step tests, the
bucket the latch tests and the flag the force tests are those the update leaves.
-/

namespace Sys2Proof.Machine

/-! ## The bucket step -/

theorem State.bucketStep_bucket_of_lt {s : State} (h : s.vsys.toNat < s.cfg.vShutdownThreshold.toNat) :
    s.bucketStep.bucket.toNat = s.bucket.toNat - 1 := by
  simp only [bucketStep_eq, if_pos h]
  split
  · next hpos => exact pred_toNat hpos
  · next hzero => omega

theorem State.bucketStep_bucket_of_le {s : State} (h : s.cfg.vShutdownThreshold.toNat ≤ s.vsys.toNat)
    (hcap : s.bucket.toNat ≤ s.cfg.bucketCapacity.toNat) :
    s.bucketStep.bucket.toNat = min (s.bucket.toNat + 1) s.cfg.bucketCapacity.toNat := by
  simp only [bucketStep_eq, if_neg (not_lt.mpr h)]
  split
  · next hroom =>
    have := s.cfg.bucketCapacity.isLt
    rw [succ_toNat (by omega)]
    omega
  · next hfull => omega

/-! ## What `on_step()` leaves -/

@[simp] theorem State.onStep_vsys (s : State) : s.onStep.vsys = s.vsysAverage.vsys := by
  simp only [onStep, timingCorrect_eq, faultForce_eq, faultLatch_eq, bucketStep_eq]

@[simp] theorem State.onStep_bucket (s : State) : s.onStep.bucket = s.vsysAverage.bucketStep.bucket := by
  simp only [onStep, timingCorrect_eq, faultForce_eq, faultLatch_eq]

@[simp] theorem State.onStep_shadow (s : State) : s.onStep.shadow = s.shadow := by
  simp only [onStep, timingCorrect_eq, faultForce_eq, faultLatch_eq, bucketStep_eq, vsysAverage_shadow]

/-- The latch, in terms of the bucket the update leaves (R133). -/
theorem State.onStep_faultFlag (s : State) : s.onStep.faultFlag = (s.faultFlag || s.onStep.bucket == 0) := by
  simp only [onStep, timingCorrect_eq, faultForce_eq, faultLatch_eq, bucketStep_eq, vsysAverage_faultFlag]

/-- The force, in terms of the flag the update leaves (R134). -/
theorem State.onStep_duty_of_faultFlag (s : State) :
    s.onStep.duty = if s.onStep.faultFlag then 0 else s.duty := by
  simp only [onStep, timingCorrect_eq, faultForce_eq, faultLatch_eq, bucketStep_eq, vsysAverage_duty]

/-- An empty bucket sets the flag in the same update, whatever it was. -/
theorem State.onStep_faultFlag_of_bucket {s : State} (h : s.onStep.bucket = 0) : s.onStep.faultFlag = true := by
  rw [onStep_faultFlag, h, beq_self_eq_true, Bool.or_true]

/-! ## UPDATE in `On` -/

/-- Settles O22: the bucket step tests the average the update leaves, on either side of the threshold; the last clause
follows from the two. -/
theorem bucketMovesByOne : Obligations.BucketMovesByOne := by
  intro s hon hcap
  have hlow := State.bucketStep_bucket_of_lt (s := s.begin.vsysAverage)
  have hhigh := fun h => State.bucketStep_bucket_of_le (s := s.begin.vsysAverage) h hcap
  refine ⟨_, exec_update_of_on hon, ?_⟩
  rw [State.emit_vsys, State.emit_bucket, State.onStep_vsys, State.onStep_bucket]
  refine ⟨hlow, hhigh, ?_⟩
  rcases lt_or_ge s.begin.vsysAverage.vsys.toNat s.cfg.vShutdownThreshold.toNat with h | h
  · rw [hlow h]
    exact (Nat.sub_le _ _).trans hcap
  · rw [hhigh h]
    exact min_le_right _ _

/-- Settles O25: the force reads the flag the latch left, and an empty bucket has set it; of the shadows, `ARM_TIMER`
writes the timer's period alone. -/
theorem faultForcesDutyZero : Obligations.FaultForcesDutyZero := by
  intro s hon
  have hduty := s.begin.onStep_duty_of_faultFlag
  refine ⟨_, exec_update_of_on hon, hduty, fun hempty => ?_, ?_⟩
  · have hflag := State.onStep_faultFlag_of_bucket hempty
    exact ⟨hflag, by rw [State.emit_duty, hduty, if_pos hflag]⟩
  · rw [State.emit_shadow, State.onStep_shadow]
    exact ⟨rfl, rfl, rfl, rfl⟩

end Sys2Proof.Machine
end

section
/-!
PROOF of R143, R144, R145 and R153. Apart from `HB_ENABLE(p, 1)`, which two steps share, each step of a switch emits
words of its own kind, so that such a word is in the whole list exactly on its step's condition. What the switch leaves
of one phase's outputs follows from the words naming that phase alone, the four short lists of the steps in order.
-/

namespace Sys2Proof

/-! ## A class of drive states met by one phase at most -/

theorem PerPhase.eq_of_count_le_one {t : PerPhase DriveState} {q : DriveState → Bool} (h : t.count q ≤ 1)
    {p r : Phase} (hp : q (t.get p) = true) (hr : q (t.get r) = true) : p = r := by
  simp only [count] at h
  cases p <;> cases r <;> simp_all only [get, Bool.toNat_true] <;> omega

/-- The bounds of R140(b), (c) and (d). -/
theorem PerPhase.legal_counts {t : PerPhase DriveState} (h : t.legal = true) :
    t.count (· == .drivenHigh) ≤ 1 ∧ t.count (· == .drivenLow) ≤ 1 ∧ t.count DriveState.isFloat ≤ 1 := by
  simp only [legal, oneHigh, oneLow, oneFloat, Bool.and_eq_true, decide_eq_true_eq] at h
  obtain ⟨⟨⟨-, hhigh⟩, hlow⟩, hfloat⟩ := h
  exact ⟨hhigh, hlow, hfloat⟩

theorem PerPhase.eq_of_drivenHigh {t : PerPhase DriveState} (h : t.legal = true) {p r : Phase}
    (hp : t.get p = .drivenHigh) (hr : t.get r = .drivenHigh) : p = r :=
  eq_of_count_le_one (legal_counts h).1 (beq_iff_eq.mpr hp) (beq_iff_eq.mpr hr)

theorem PerPhase.eq_of_drivenLow {t : PerPhase DriveState} (h : t.legal = true) {p r : Phase}
    (hp : t.get p = .drivenLow) (hr : t.get r = .drivenLow) : p = r :=
  eq_of_count_le_one (legal_counts h).2.1 (beq_iff_eq.mpr hp) (beq_iff_eq.mpr hr)

theorem PerPhase.eq_of_isFloat {t : PerPhase DriveState} (h : t.legal = true) {p r : Phase}
    (hp : (t.get p).isFloat = true) (hr : (t.get r).isFloat = true) : p = r :=
  eq_of_count_le_one (legal_counts h).2.2 hp hr

/-- The phase a word names; the master switch and the timer name none (R86). -/
def Effect.phase : Effect → Option Phase
  | .pwmEnable p _ | .pwmDisable p | .outputLow p | .hbEnable p _ => some p
  | .masterEnable _ | .armTimer _ => none

namespace Machine

/-! ## The words of each step -/

@[simp] theorem mem_disableWords {a b : DriveState} {p : Phase} {e : Effect} :
    e ∈ disableWords a b p ↔ (a = .drivenHigh ∧ b.isFloat = true) ∧ e = .pwmDisable p := by
  simp [disableWords]

@[simp] theorem mem_releaseWords {a b : DriveState} {p : Phase} {e : Effect} :
    e ∈ releaseWords a b p ↔ (b.isFloat = true ∧ a.isFloat = false) ∧ e = .hbEnable p false := by
  simp [releaseWords]

@[simp] theorem mem_lowWords {a b : DriveState} {p : Phase} {e : Effect} :
    e ∈ lowWords a b p ↔
      (b = .drivenLow ∧ a ≠ .drivenLow) ∧ (e = .outputLow p ∨ e = .hbEnable p true) := by
  simp [lowWords]

@[simp] theorem mem_highWords {duty : Word} {a b : DriveState} {p : Phase} {e : Effect} :
    e ∈ highWords duty a b p ↔
      (b = .drivenHigh ∧ a ≠ .drivenHigh) ∧ (e = .pwmEnable p duty ∨ e = .hbEnable p true) := by
  simp [highWords]

section Switch
variable {duty : Word} {prev next : PerPhase DriveState} {p : Phase}

/-! ## The words of the whole switch -/

theorem pwmDisable_mem_switchWords :
    Effect.pwmDisable p ∈ switchWords duty prev next ↔
      prev.get p = .drivenHigh ∧ (next.get p).isFloat = true := by
  simp [switchWords, mem_forPhases]

theorem hbEnable_false_mem_switchWords :
    Effect.hbEnable p false ∈ switchWords duty prev next ↔
      (next.get p).isFloat = true ∧ (prev.get p).isFloat = false := by
  simp [switchWords, mem_forPhases]

theorem outputLow_mem_switchWords :
    Effect.outputLow p ∈ switchWords duty prev next ↔
      next.get p = .drivenLow ∧ prev.get p ≠ .drivenLow := by
  simp [switchWords, mem_forPhases]

theorem pwmEnable_mem_switchWords {d : Word} :
    Effect.pwmEnable p d ∈ switchWords duty prev next ↔
      next.get p = .drivenHigh ∧ prev.get p ≠ .drivenHigh ∧ d = duty := by
  simp [switchWords, mem_forPhases, and_assoc]

/-- The disables of step 2 come before every other word (R142, R143). -/
theorem switchWords_disables_first (duty : Word) (prev next : PerPhase DriveState) :
    ∃ first rest, switchWords duty prev next = first ++ rest ∧
      (∀ e ∈ first, ∃ p, e = .pwmDisable p) ∧ ∀ p, Effect.pwmDisable p ∉ rest := by
  refine ⟨forPhases fun p => disableWords (prev.get p) (next.get p) p, _,
    by rw [switchWords, List.append_assoc, List.append_assoc], fun e he => ?_, fun p => ?_⟩
  · obtain ⟨p, hp⟩ := mem_forPhases.mp he
    exact ⟨p, (mem_disableWords.mp hp).2⟩
  · simp [mem_forPhases]

/-! ## The words of one phase in one step stand together -/

theorem infix_forPhases (words : Phase → List Effect) (p : Phase) : words p <:+: forPhases words := by
  rw [forPhases, List.flatMap_def]
  exact List.infix_of_mem_flatten (List.mem_map_of_mem (by cases p <;> simp [phases]))

theorem lowWords_infix_switchWords :
    lowWords (prev.get p) (next.get p) p <:+: switchWords duty prev next := by
  refine (infix_forPhases (fun r => lowWords (prev.get r) (next.get r) r) p).trans ?_
  exact List.infix_append ..

theorem highWords_infix_switchWords :
    highWords duty (prev.get p) (next.get p) p <:+: switchWords duty prev next := by
  refine (infix_forPhases (fun r => highWords duty (prev.get r) (next.get r) r) p).trans ?_
  exact (List.suffix_append ..).isInfix

theorem outputLow_hbEnable_infix (h : Effect.outputLow p ∈ switchWords duty prev next) :
    [Effect.outputLow p, .hbEnable p true] <:+: switchWords duty prev next := by
  have hw := lowWords_infix_switchWords (duty := duty) (prev := prev) (next := next) (p := p)
  rwa [lowWords, if_pos (outputLow_mem_switchWords.mp h)] at hw

theorem pwmEnable_hbEnable_infix {d : Word} (h : Effect.pwmEnable p d ∈ switchWords duty prev next) :
    [Effect.pwmEnable p d, .hbEnable p true] <:+: switchWords duty prev next := by
  obtain ⟨hnext, hprev, rfl⟩ := pwmEnable_mem_switchWords.mp h
  have hw := highWords_infix_switchWords (duty := d) (prev := prev) (next := next) (p := p)
  rwa [highWords, if_pos ⟨hnext, hprev⟩] at hw

end Switch

/-! ## One phase's outputs -/

/-- The words of a list that name a phase, in their order. -/
def wordsNaming (p : Phase) (es : List Effect) : List Effect := es.filter (·.phase = some p)

/-- The shadows of one phase: its mode, duty and half-bridge enable. -/
def Shadow.outputs (h : Shadow) (p : Phase) : OutMode × Word × Bool :=
  (h.outMode.get p, h.pwmDuty.get p, h.hbEn.get p)

theorem Shadow.apply_outputs_of_ne {e : Effect} {p : Phase} (he : e.phase ≠ some p) (h : Shadow) :
    (h.apply e).outputs p = h.outputs p := by
  cases e <;> simp_all [Effect.phase, apply, outputs, eq_comm]

theorem Shadow.apply_outputs_congr {h g : Shadow} {p : Phase} (hg : h.outputs p = g.outputs p) (e : Effect) :
    (h.apply e).outputs p = (g.apply e).outputs p := by
  cases e <;> simp_all [apply, outputs]

/-- Words that name no phase or another one can be left out of the list. -/
theorem Shadow.applyAll_outputs (es : List Effect) {h g : Shadow} {p : Phase}
    (hg : h.outputs p = g.outputs p) :
    (h.applyAll es).outputs p = (g.applyAll (wordsNaming p es)).outputs p := by
  induction es generalizing h g with
  | nil => exact hg
  | cons e es ih =>
    by_cases he : e.phase = some p
    · rw [wordsNaming, List.filter_cons_of_pos (by simpa using he)]
      exact ih (apply_outputs_congr hg e)
    · rw [wordsNaming, List.filter_cons_of_neg (by simpa using he)]
      exact ih ((apply_outputs_of_ne he h).trans hg)

theorem wordsNaming_append (p : Phase) (es fs : List Effect) :
    wordsNaming p (es ++ fs) = wordsNaming p es ++ wordsNaming p fs := List.filter_append ..

theorem wordsNaming_forPhases {words : Phase → List Effect}
    (h : ∀ r, ∀ e ∈ words r, e.phase = some r) (p : Phase) :
    wordsNaming p (forPhases words) = words p := by
  have hself : wordsNaming p (words p) = words p :=
    List.filter_eq_self.mpr fun e he => by simp [h p e he]
  have hother {r : Phase} (hr : r ≠ p) : wordsNaming p (words r) = [] :=
    List.filter_eq_nil_iff.mpr fun e he => by simp [h r e he, hr]
  have hsplit : forPhases words = words .a ++ words .b ++ words .c := by simp [forPhases, phases]
  rw [hsplit, wordsNaming_append, wordsNaming_append]
  cases p <;> simp [hself, hother]

/-- The words of one phase in a switch, from its own two drive states (R142). -/
def phaseWords (duty : Word) (prev next : DriveState) (p : Phase) : List Effect :=
  disableWords prev next p ++ releaseWords prev next p ++ lowWords prev next p ++ highWords duty prev next p

theorem wordsNaming_switchWords (duty : Word) (prev next : PerPhase DriveState) (p : Phase) :
    wordsNaming p (switchWords duty prev next) = phaseWords duty (prev.get p) (next.get p) p := by
  simp only [switchWords, wordsNaming_append, phaseWords]
  rw [wordsNaming_forPhases, wordsNaming_forPhases, wordsNaming_forPhases, wordsNaming_forPhases] <;>
    intro r e he
  · obtain ⟨-, rfl | rfl⟩ := mem_highWords.mp he <;> rfl
  · obtain ⟨-, rfl | rfl⟩ := mem_lowWords.mp he <;> rfl
  · obtain ⟨-, rfl⟩ := mem_releaseWords.mp he
    rfl
  · obtain ⟨-, rfl⟩ := mem_disableWords.mp he
    rfl

/-- What a switch leaves of a phase depends on that phase's two drive states alone. -/
theorem Shadow.applyAll_switchWords_outputs (h : Shadow) (duty : Word) (prev next : PerPhase DriveState)
    (p : Phase) :
    (h.applyAll (switchWords duty prev next)).outputs p =
      (h.applyAll (phaseWords duty (prev.get p) (next.get p) p)).outputs p := by
  rw [applyAll_outputs _ rfl, wordsNaming_switchWords]

theorem phaseWords_self (duty : Word) (d : DriveState) (p : Phase) : phaseWords duty d d p = [] := by
  cases d <;> rfl

theorem phaseWords_newly_low {d : DriveState} (h : d ≠ .drivenLow) (duty : Word) (p : Phase) :
    phaseWords duty d .drivenLow p = [.outputLow p, .hbEnable p true] := by
  simp [phaseWords, disableWords, releaseWords, lowWords, highWords, DriveState.isFloat, h]

theorem phaseWords_newly_high {d : DriveState} (h : d ≠ .drivenHigh) (duty : Word) (p : Phase) :
    phaseWords duty d .drivenHigh p = [.pwmEnable p duty, .hbEnable p true] := by
  simp [phaseWords, disableWords, releaseWords, lowWords, highWords, DriveState.isFloat, h]

theorem Shadow.switch_keeps_outputs (h : Shadow) (duty : Word) {prev next : PerPhase DriveState} {p : Phase}
    (hp : prev.get p = next.get p) :
    (h.applyAll (switchWords duty prev next)).outputs p = h.outputs p := by
  rw [applyAll_switchWords_outputs, hp, phaseWords_self, applyAll_nil]

theorem Shadow.switch_newly_low_outputs (h : Shadow) (duty : Word) {prev next : PerPhase DriveState}
    {p : Phase} (hprev : prev.get p ≠ .drivenLow) (hnext : next.get p = .drivenLow) :
    (h.applyAll (switchWords duty prev next)).outputs p = (.low, h.pwmDuty.get p, true) := by
  rw [applyAll_switchWords_outputs, hnext, phaseWords_newly_low hprev]
  simp [apply, outputs]

theorem Shadow.switch_newly_high_outputs (h : Shadow) (duty : Word) {prev next : PerPhase DriveState}
    {p : Phase} (hprev : prev.get p ≠ .drivenHigh) (hnext : next.get p = .drivenHigh) :
    (h.applyAll (switchWords duty prev next)).outputs p = (.pwm, duty, true) := by
  rw [applyAll_switchWords_outputs, hnext, phaseWords_newly_high hprev]
  simp [apply, outputs]

/-- Only a PWM enable of the phase writes its duty (R147). -/
theorem Shadow.applyAll_pwmDuty_of_not_mem {es : List Effect} {p : Phase} (h : Shadow)
    (hes : ∀ d, Effect.pwmEnable p d ∉ es) : (h.applyAll es).pwmDuty.get p = h.pwmDuty.get p := by
  induction es generalizing h with
  | nil => rfl
  | cons e es ih =>
    simp only [List.mem_cons, not_or] at hes
    have he : (h.apply e).pwmDuty.get p = h.pwmDuty.get p := by
      cases e with
      | pwmEnable r d =>
        have hne : p ≠ r := fun hpr => (hes d).1 (hpr ▸ rfl)
        simp [apply, hne]
      | pwmDisable | outputLow | hbEnable | masterEnable | armTimer => rfl
    rw [applyAll_cons, ih _ fun d => (hes d).2, he]

theorem Shadow.switch_pwmDuty (h : Shadow) (duty : Word) (prev next : PerPhase DriveState) (p : Phase) :
    (h.applyAll (switchWords duty prev next)).pwmDuty.get p =
      if next.get p = .drivenHigh ∧ prev.get p ≠ .drivenHigh then duty else h.pwmDuty.get p := by
  split
  · next hnew =>
    obtain ⟨hnext, hprev⟩ := hnew
    exact congrArg (·.2.1) (h.switch_newly_high_outputs duty hprev hnext)
  · next hold =>
    refine h.applyAll_pwmDuty_of_not_mem fun d hd => hold ?_
    obtain ⟨hnext, hprev, -⟩ := pwmEnable_mem_switchWords.mp hd
    exact ⟨hnext, hprev⟩

/-! ## The fourth slot of a running TICK -/

/-- Before the switch only the master switch's shadow is written, and neither the duty nor the row found (R160, R165,
R166). -/
theorem exec_tick_fourth_shadow {s : State} (hrun : s.running) (hidx : s.tickCounter = 3) (arg : Word) :
    ∃ t, exec (.tick arg) s = .next t ∧
      t.shadow = { s.shadow with masterEn := true }.applyAll
        (switchWords s.duty s.prevRow (s.cfg.pt.row (s.sector + 1))) := by
  have htick : exec (.tick arg) s =
      .next ({ s.begin with tickCounter := nextTick s.tickCounter }.runTick s.tickCounter
        (s.cfg.rawSample arg)) := by
    cases hr : s.runState with
    | off => exact absurd hr hrun
    | rampUp | on => simp [exec, execTick, hr]
  refine ⟨_, htick, ?_⟩
  simp only [State.runTick, hidx, if_true, State.advanceSector, State.switchTo_eq, State.qualify_eq,
    State.storeSample, State.masterOn_eq]
  rfl

/-! ## The obligations -/

/-- Settles O35: the condition is that of step 2, whose words are emitted first; the phase from high to low is one newly
driven low, whose own words end with the output low. -/
theorem leavingHighDisablesPwmFirst : Obligations.LeavingHighDisablesPwmFirst := by
  refine fun duty prev next => ⟨fun p => pwmDisable_mem_switchWords, switchWords_disables_first duty prev next,
    fun h p hprev hnext => ?_⟩
  have hnew : prev.get p ≠ .drivenLow := by simp [hprev]
  exact ⟨outputLow_mem_switchWords.mpr ⟨hnext, hnew⟩,
    congrArg (·.1) (h.switch_newly_low_outputs duty hnew hnext)⟩

/-- Settles O36: the condition is that of step 3; a legal row has one floating phase at most. -/
theorem newlyFloatingIsReleased : Obligations.NewlyFloatingIsReleased := by
  refine fun duty prev next => ⟨fun p => hbEnable_false_mem_switchWords, fun hlegal p q hp hq => ?_⟩
  exact PerPhase.eq_of_isFloat hlegal (hbEnable_false_mem_switchWords.mp hp).1
    (hbEnable_false_mem_switchWords.mp hq).1

/-- Settles O37: the condition is that of step 4, whose two words for a phase stand together; a legal row has one low
phase at most. -/
theorem newlyLowIsAssertedThenEnabled : Obligations.NewlyLowIsAssertedThenEnabled := by
  refine fun duty prev next => ⟨fun p => outputLow_mem_switchWords, fun p => outputLow_hbEnable_infix,
    fun hlegal p q hp hq => ?_⟩
  exact PerPhase.eq_of_drivenLow hlegal (outputLow_mem_switchWords.mp hp).1
    (outputLow_mem_switchWords.mp hq).1

/-- Settles O38: the condition is that of step 5; a phase that stays high has no word of its own, and the switch is all
that a `TICK` does to the duties. -/
theorem newlyHighGetsCurrentDuty : Obligations.NewlyHighGetsCurrentDuty := by
  refine fun duty prev next => ⟨fun p d => pwmEnable_mem_switchWords, fun p d => pwmEnable_hbEnable_infix,
    fun hlegal p q d e hp hq => ?_, fun h p hprev hnext => ?_, fun s arg hrun hidx => ?_⟩
  · exact PerPhase.eq_of_drivenHigh hlegal (pwmEnable_mem_switchWords.mp hp).1
      (pwmEnable_mem_switchWords.mp hq).1
  · have hkeep := h.switch_keeps_outputs duty (hprev.trans hnext.symm)
    exact ⟨congrArg (·.2.1) hkeep, congrArg (·.1) hkeep, congrArg (·.2.2) hkeep⟩
  · obtain ⟨t, ht, hshadow⟩ := exec_tick_fourth_shadow hrun hidx arg
    refine ⟨t, ht, fun p => ?_⟩
    rw [hshadow, Shadow.switch_pwmDuty]

end Machine
end Sys2Proof
end

section
/-!
PROOF of R165. A running `TICK` writes `Sector` in its last step alone, and in the fourth slot alone. A running `TICK`
so moves the sampler on by one slot of the electrical revolution, its 24 slots counted as four to a sector, and where a
sequence of ticks ends is a sum modulo 24.
-/

namespace Sys2Proof.Machine

/-! ## The running path of TICK -/

/-- The shape of R160 outside `Off`. -/
theorem exec_tick_of_running {s : State} (hrun : s.running) (arg : Word) :
    exec (.tick arg) s = .next
      (State.runTick { s.begin with tickCounter := nextTick s.tickCounter } s.tickCounter
        (s.cfg.rawSample arg)) := by
  cases hr : s.runState with
  | off => exact absurd hr hrun
  | rampUp | on => simp [exec, execTick, hr]

theorem State.runTick_before_fourth {idx : Fin 4} (hidx : idx ≠ 3) (s : State) (raw : Word) :
    s.runTick idx raw = s.masterOn.storeSample idx raw := if_neg hidx

theorem State.runTick_fourth (s : State) (raw : Word) :
    s.runTick 3 raw = ((s.masterOn.storeSample 3 raw).qualify raw).advanceSector := rfl

/-- All that the running path can write once the counter is stepped, both sector registers in full (R163 to R166). -/
theorem State.runTick_frame (s : State) (idx : Fin 4) (raw : Word) :
    s.runTick idx raw = { s with
      sector := if idx = 3 then nextSector s.sector else s.sector
      prevSector := if idx = 3 then some (nextSector s.sector) else s.prevSector
      work := s.work.set idx (s.cfg.delta raw)
      qual := (s.runTick idx raw).qual
      zcIntegral := (s.runTick idx raw).zcIntegral
      vbatt := (s.runTick idx raw).vbatt
      shadow := (s.runTick idx raw).shadow
      effects := (s.runTick idx raw).effects } := by
  by_cases hidx : idx = 3
  · subst hidx
    simp only [runTick_fourth, advanceSector, switchTo_eq, qualify_eq, storeSample, masterOn_eq, if_true]
  · simp only [runTick_before_fourth hidx, storeSample, masterOn_eq, if_neg hidx]

@[simp] theorem State.runTick_sector (s : State) (idx : Fin 4) (raw : Word) :
    (s.runTick idx raw).sector = if idx = 3 then nextSector s.sector else s.sector := by
  rw [runTick_frame]

@[simp] theorem State.runTick_prevSector (s : State) (idx : Fin 4) (raw : Word) :
    (s.runTick idx raw).prevSector = if idx = 3 then some (nextSector s.sector) else s.prevSector := by
  rw [runTick_frame]

@[simp] theorem State.runTick_tickCounter (s : State) (idx : Fin 4) (raw : Word) :
    (s.runTick idx raw).tickCounter = s.tickCounter := by
  rw [runTick_frame]

@[simp] theorem State.runTick_runState (s : State) (idx : Fin 4) (raw : Word) :
    (s.runTick idx raw).runState = s.runState := by
  rw [runTick_frame]

/-- Neither the master switch, the sample nor the qualification writes what the switch reads (R165). -/
theorem State.runTick_fourth_effects (s : State) (raw : Word) :
    (s.runTick 3 raw).effects = s.effects ++ (if s.shadow.masterEn then [] else [.masterEnable true]) ++
      switchWords s.duty s.prevRow (s.cfg.pt.row (nextSector s.sector)) := by
  simp only [runTick_fourth, advanceSector, switchTo_eq, qualify_eq, masterOn_eq]
  rfl

theorem nextSector_val (n : Fin 6) : (nextSector n).val = (n.val + 1) % 6 := Fin.val_add n 1

theorem nextTick_val (n : Fin 4) : (nextTick n).val = (n.val + 1) % 4 := Fin.val_add n 1

/-! ## The writers of Sector -/

@[simp] theorem State.nudge_sector (s : State) (c : Word) : (s.nudge c).sector = s.sector := by
  unfold nudge
  split
  · rfl
  · rfl
  · simp only [increment_eq, decrement_eq]
    split
    · rfl
    · split <;> rfl

/-- An instruction that is no `TICK` leaves `Sector` as it found it. -/
theorem exec_sector_of_not_tick {i : Instr} {s t : State} (h : exec i s = .next t)
    (hi : ∀ arg, i ≠ .tick arg) : t.sector = s.sector := by
  cases i with
  | tick arg => exact absurd rfl (hi arg)
  | update =>
    rw [exec_update] at h
    cases h
    rw [State.emit_sector, State.updateBranch_frame, State.begin_sector]
  | startRamp =>
    simp only [exec, execStartRamp] at h
    split at h <;> cases h <;> rfl
  | manSpdInc =>
    simp only [exec, execManSpdInc] at h
    split at h <;> cases h <;> rfl
  | manSpdDec =>
    simp only [exec, execManSpdDec] at h
    split at h <;> cases h <;> rfl
  | setCmdDuty c =>
    simp only [exec, execSetCmdDuty] at h
    split at h
    · cases h
      simp [State.nudge_sector]
    · split at h <;> cases h <;> rfl
  | dutyInc =>
    cases h
    simp [State.increment_eq]
  | dutyDec =>
    cases h
    simp [State.decrement_eq]
  | stop | getDuty | getPeriod | getFault | getVsys | getZc | getState | reservedF | pwmEnable
  | pwmDisable | outputLow | hbEnable | masterEnable | armTimer =>
    cases h
    rfl

/-- R165: the fourth slot of a running `TICK` alone writes `Sector`. -/
theorem tick_fourth_of_exec_sector_ne {i : Instr} {s t : State} (h : exec i s = .next t)
    (hne : t.sector ≠ s.sector) : (∃ arg, i = .tick arg) ∧ s.running ∧ s.tickCounter = 3 := by
  by_cases hi : ∃ arg, i = .tick arg
  · obtain ⟨arg, rfl⟩ := hi
    have hrun : s.running := by
      intro hoff
      simp only [exec, execTick, State.begin_runState, hoff, State.idlePath_eq] at h
      cases h
      exact hne rfl
    rw [exec_tick_of_running hrun] at h
    cases h
    refine ⟨⟨arg, rfl⟩, hrun, ?_⟩
    by_contra hidx
    exact hne (by simp [hidx])
  · exact absurd (exec_sector_of_not_tick h fun arg harg => hi ⟨arg, harg⟩) hne

/-! ## The slots of a revolution -/

/-- The slot of the electrical revolution the next `TICK` samples, four to a sector. -/
def State.slotOfRevolution (s : State) : Nat := 4 * s.sector.val + s.tickCounter.val

theorem State.slotOfRevolution_lt (s : State) : s.slotOfRevolution < 24 := by
  have hsector := s.sector.isLt
  have htick := s.tickCounter.isLt
  unfold slotOfRevolution
  omega

theorem exec_tick_slotOfRevolution {s : State} (hrun : s.running) (arg : Word) :
    ∃ t, exec (.tick arg) s = .next t ∧ t.running ∧
      t.slotOfRevolution = (s.slotOfRevolution + 1) % 24 := by
  refine ⟨_, exec_tick_of_running hrun arg, by simpa using hrun, ?_⟩
  have hsector := s.sector.isLt
  have htick := s.tickCounter.isLt
  by_cases hidx : s.tickCounter = 3
  · simp only [State.slotOfRevolution, State.runTick_sector, State.runTick_tickCounter, hidx, if_true,
      nextSector_val, nextTick_val, State.begin_sector]
    omega
  · have hlt : s.tickCounter.val ≠ 3 := fun hval => hidx (Fin.ext hval)
    simp only [State.slotOfRevolution, State.runTick_sector, State.runTick_tickCounter, if_neg hidx,
      nextTick_val, State.begin_sector]
    omega

theorem runOps_ticks_slotOfRevolution (args : List Word) {s : State} (hrun : s.running) :
    ∃ t, runOps (args.map .tick) s = .next t ∧
      t.slotOfRevolution = (s.slotOfRevolution + args.length) % 24 := by
  induction args generalizing s with
  | nil => exact ⟨s, rfl, (Nat.mod_eq_of_lt s.slotOfRevolution_lt).symm⟩
  | cons arg args ih =>
    obtain ⟨u, hu, hurun, huslot⟩ := exec_tick_slotOfRevolution hrun arg
    obtain ⟨t, ht, htslot⟩ := ih hurun
    refine ⟨t, by rw [List.map_cons, runOps_cons hu, ht], ?_⟩
    rw [htslot, huslot, List.length_cons]
    omega

/-- Settles O34: the end of the fourth slot is read off the running path; `4 * k` slots of the revolution are `k` of its
sectors, and the place within the sector stays. -/
theorem sectorAdvancesModSix : Obligations.SectorAdvancesModSix := by
  refine ⟨fun s arg hrun hidx => ?_, fun i s t => tick_fourth_of_exec_sector_ne, fun args k s hlen hrun => ?_⟩
  · refine ⟨_, exec_tick_of_running hrun arg, ?_⟩
    rw [hidx]
    refine ⟨by simp [nextSector_val], by simp,
      if s.shadow.masterEn then [] else [.masterEnable true], by split <;> simp, ?_⟩
    rw [State.runTick_fourth_effects, State.runTick_sector]
    rfl
  · obtain ⟨t, ht, hslot⟩ := runOps_ticks_slotOfRevolution args hrun
    have hsector := t.sector.isLt
    have htick := t.tickCounter.isLt
    have htick' := s.tickCounter.isLt
    simp only [State.slotOfRevolution, hlen] at hslot
    exact ⟨t, ht, by omega, Fin.ext (by omega)⟩

end Sys2Proof.Machine
end

section
/-!
PROOF of R196 to R200. All five reads end in one shape: the operation begins, answers a word and writes nothing else.
That the signed reading of `ZcIntegral` is the sum of the two middle samples is R43(h), an invariant.
-/

namespace Sys2Proof.Machine

/-- What R85 and section 3 say of every read: the word answered, no effect word, and every register as it was. -/
theorem done_begin_respond (s : State) (v : Word) :
    done (s.begin.respond v) = .next { s with response := answer v, effects := [] } := rfl

/-- Settles O56: each read is `done_begin_respond` at its register, `GET_FAULT` at the flag as a word (`flagWord`). -/
theorem readsAnswerTheirRegister : Obligations.ReadsAnswerTheirRegister := by
  intro s
  refine ⟨?duty, ?period, ?fault, ?vsys, ?zc, fun hinv => hinv.zcIntegral⟩
  case duty => exact done_begin_respond s s.duty
  case period => exact done_begin_respond s s.period
  case fault => exact done_begin_respond s (flagWord s.faultFlag)
  case vsys => exact done_begin_respond s s.vsys
  case zc => exact done_begin_respond s s.zcIntegral

end Sys2Proof.Machine
end

section
/-!
PROOF of R211. Among the operations `UPDATE` alone writes `FaultFlag`, and among its branches that of `Off` clears it and
that of `RampUp` leaves it; the flag so rises in `on_step()` alone, whose latch wants an empty bucket and whose steps
write five registers and no other.
-/

namespace Sys2Proof.Machine

/-! ## The operations that do not write the flag -/

@[simp] theorem State.runTick_faultFlag (s : State) (idx : Fin 4) (raw : Word) :
    (s.runTick idx raw).faultFlag = s.faultFlag := by
  rw [runTick_frame]

/-- All that the run region of `SET_CMD_DUTY` can write (R184). -/
theorem State.nudge_frame (s : State) (c : Word) :
    s.nudge c = { s with duty := (s.nudge c).duty, startReq := (s.nudge c).startReq } := by
  unfold nudge
  split
  · rfl
  · rfl
  · simp only [increment_eq, decrement_eq]
    split
    · rfl
    · split <;> rfl

theorem exec_faultFlag_of_ne_update {i : Instr} {s t : State} (h : exec i s = .next t) (hi : i ≠ .update) :
    t.faultFlag = s.faultFlag := by
  cases i with
  | update => exact absurd rfl hi
  | tick arg =>
    by_cases hrun : s.running
    · rw [exec_tick_of_running hrun] at h
      cases h
      rw [State.runTick_faultFlag, State.begin_faultFlag]
    · have hoff : s.runState = .off := not_not.mp hrun
      simp only [exec, execTick, State.begin_runState, hoff, State.idlePath_eq] at h
      cases h
      rfl
  | startRamp | manSpdInc | manSpdDec =>
    simp only [exec, execStartRamp, execManSpdInc, execManSpdDec] at h
    split at h <;> cases h <;> rfl
  | setCmdDuty c =>
    simp only [exec, execSetCmdDuty] at h
    split at h
    · cases h
      rw [State.nudge_frame, State.begin_faultFlag]
    · split at h <;> cases h <;> rfl
  | dutyInc | dutyDec =>
    cases h
    simp only [State.increment_eq, State.decrement_eq, State.begin_faultFlag]
  | stop | getDuty | getPeriod | getFault | getVsys | getZc | getState | reservedF | pwmEnable
  | pwmDisable | outputLow | hbEnable | masterEnable | armTimer =>
    cases h
    rfl

/-! ## The branches of UPDATE -/

@[simp] theorem State.rampStep_faultFlag (s : State) : s.rampStep.faultFlag = s.faultFlag := by
  rw [rampStep_eq]
  dsimp only
  split <;> rfl

/-- The resets of `Off` clear the flag, and the ramp step that may follow in the same update leaves it (R102, R103). -/
theorem State.updateBranch_faultFlag_of_off {s : State} (h : s.runState = .off) :
    s.updateBranch.faultFlag = false := by
  simp only [updateBranch, h]
  split
  · rw [rampStep_faultFlag]
    rfl
  · rfl

theorem State.updateBranch_faultFlag_of_rampUp {s : State} (h : s.runState = .rampUp) :
    s.updateBranch.faultFlag = s.faultFlag := by
  simp only [updateBranch, h, rampStep_faultFlag]

/-- All that `on_step()` can write (R107). -/
theorem State.onStep_frame (s : State) :
    s.onStep = { s with
      vsys := s.onStep.vsys
      bucket := s.onStep.bucket
      faultFlag := s.onStep.faultFlag
      duty := s.onStep.duty
      period := s.onStep.period } := by
  simp only [onStep, timingCorrect_eq, faultForce_eq, faultLatch_eq, bucketStep_eq, vsysAverage]

theorem State.onStep_bucket_of_raised {s : State} (hclear : s.faultFlag = false)
    (hset : s.onStep.faultFlag = true) : s.onStep.bucket = 0 := by
  rw [onStep_faultFlag, hclear, Bool.false_or] at hset
  exact beq_iff_eq.mp hset

/-! ## What raises the fault -/

/-- The run state an `UPDATE` that raises the fault finds (R211). -/
theorem on_of_update_raises {s t : State} (h : exec .update s = .next t) (hclear : s.faultFlag = false)
    (hset : t.faultFlag = true) : s.runState = .on := by
  rw [exec_update] at h
  cases h
  rw [State.emit_faultFlag] at hset
  cases hr : s.runState with
  | off =>
    rw [State.updateBranch_faultFlag_of_off (s := s.begin) hr] at hset
    cases hset
  | rampUp =>
    rw [State.updateBranch_faultFlag_of_rampUp (s := s.begin) hr, State.begin_faultFlag, hclear] at hset
    cases hset
  | on => rfl

/-- Settles O23: the flag rises in `on_step()` alone; the bucket was empty at the latch, and every other register named
stands by the frame of `on_step()`. -/
theorem faultRaisedOnlyByUpdateInOn : Obligations.FaultRaisedOnlyByUpdateInOn := by
  intro i s t h hclear hset
  have hi : i = .update := by
    by_contra hne
    rw [exec_faultFlag_of_ne_update h hne, hclear] at hset
    cases hset
  subst hi
  have hon : s.runState = .on := on_of_update_raises h hclear hset
  rw [exec_update_of_on hon] at h
  cases h
  have hbucket : s.begin.onStep.bucket = 0 := State.onStep_bucket_of_raised hclear hset
  refine ⟨rfl, hon, hbucket, ?_⟩
  rw [State.onStep_frame]
  exact ⟨hon, rfl, rfl, rfl, rfl, rfl, rfl, rfl, rfl, rfl⟩

end Sys2Proof.Machine
end

section
/-!
PROOF of the encoding's statements. The decoder accepts a 21-bit word as an effect exactly when it is the encoder's
word of that effect; that is the round trip on the effect port and the single spelling. In both tables a row is fixed
by its name and by its pattern, so that "to this row and to no other" is a matter of finding one row.
-/

namespace Sys2Proof

/-! ## Effect words: accepted exactly when written by the encoder -/

theorem decodeEffect_encode (e : Effect) : decodeEffect e.encode = .ok e := by
  cases e with
  | pwmEnable p d | pwmDisable p | outputLow p | hbEnable p on =>
    simp [Effect.encode, decodeEffect, Except.map, Except.bind]
  | masterEnable on => simp [Effect.encode, decodeEffect, Except.map]
  | armTimer t => simp [Effect.encode, decodeEffect]

/-- A field that an effect does not use is checked first. -/
theorem except_guard_ok {ε α : Type} {c : Prop} [Decidable c] {x : Except ε α} {err : ε} {y : α} :
    (if c then x else .error err) = .ok y ↔ c ∧ x = .ok y := by
  split <;> simp_all

theorem encode_of_decodeEffect {w : EffectWord} {e : Effect} (h : decodeEffect w = .ok e) : e.encode = w := by
  rw [effectWord_fields w] at h ⊢
  generalize w.extractLsb' 18 3 = eop, w.extractLsb' 16 2 = ph, w.extractLsb' 0 16 = v at h ⊢
  simp only [decodeEffect, effectWord_eop, effectWord_ph, effectWord_val] at h
  rcases three_bits eop with rfl | rfl | rfl | rfl | rfl | rfl | rfl | rfl
  case inl =>
    obtain ⟨p, hp, rfl⟩ := except_map_ok.mp h
    rw [phaseOperand_ok.mp hp, Effect.encode]
  case inr.inl | inr.inr.inl =>
    obtain ⟨hv, h⟩ := except_guard_ok.mp h
    obtain ⟨p, hp, rfl⟩ := except_map_ok.mp h
    rw [phaseOperand_ok.mp hp, hv, Effect.encode]
  case inr.inr.inr.inl =>
    obtain ⟨p, hp, h⟩ := except_bind_ok.mp h
    obtain ⟨on, hv, rfl⟩ := except_map_ok.mp h
    rw [phaseOperand_ok.mp hp, bitOperand_ok.mp hv, Effect.encode]
  case inr.inr.inr.inr.inl =>
    obtain ⟨hph, h⟩ := except_guard_ok.mp h
    obtain ⟨on, hv, rfl⟩ := except_map_ok.mp h
    rw [hph, bitOperand_ok.mp hv, Effect.encode]
  case inr.inr.inr.inr.inr.inl =>
    obtain ⟨hph, ⟨⟩⟩ := except_guard_ok.mp h
    rw [hph, Effect.encode]
  all_goals cases h

/-- Settles O2: what the decoder accepts is the encoder's word. -/
theorem effectWordsHaveOneSpelling : Obligations.EffectWordsHaveOneSpelling :=
  fun _ _ => encode_of_decodeEffect

/-! ## The round trip over both ports -/

/-- A row of the event port, or the row of an effect word. -/
theorem Instr.isEvent_or_toInstr (i : Instr) : i.isEvent = true ∨ ∃ e : Effect, i = e.toInstr := by
  cases i with
  | pwmEnable p d => exact .inr ⟨.pwmEnable p d, rfl⟩
  | pwmDisable p => exact .inr ⟨.pwmDisable p, rfl⟩
  | outputLow p => exact .inr ⟨.outputLow p, rfl⟩
  | hbEnable p on => exact .inr ⟨.hbEnable p on, rfl⟩
  | masterEnable on => exact .inr ⟨.masterEnable on, rfl⟩
  | armTimer t => exact .inr ⟨.armTimer t, rfl⟩
  | _ => exact .inl rfl

theorem encode_toInstr (e : Effect) : encode e.toInstr = .effect e.encode := by cases e <;> rfl

@[simp] theorem Effect.toInstr_isEvent (e : Effect) : e.toInstr.isEvent = false := by cases e <;> rfl

/-- An operation's word decodes to it: the code selects its row, and `arg` is read back where the row keeps it. -/
theorem decodeEvent_encode {i : Instr} (h : i.isEvent = true) :
    ∃ w, encode i = .event w ∧ decodeEvent w = i := by
  cases i with
  | pwmEnable | pwmDisable | outputLow | hbEnable | masterEnable | armTimer => cases h
  | tick arg | setCmdDuty arg => exact ⟨_, rfl, by simp [decodeEvent]⟩
  | _ => exact ⟨_, rfl, by decide⟩

/-- Settles O1, port by port. -/
theorem decodeEncodeRoundTrip : Obligations.DecodeEncodeRoundTrip := by
  intro i
  rcases i.isEvent_or_toInstr with hi | ⟨e, rfl⟩
  · obtain ⟨w, hw, hd⟩ := decodeEvent_encode hi
    rw [hw, decode, hd]
  · rw [encode_toInstr, decode, decodeEffect_encode]
    rfl

/-! ## Ignored bits -/

/-- Only `TICK` and `SET_CMD_DUTY` keep `arg` (R89). -/
theorem decodeEvent_eventWord (op : BitVec 4) (arg : Word) :
    decodeEvent (eventWord op arg) =
      if op = 0x0 then .tick arg else if op = 0x4 then .setCmdDuty arg else decodeEvent (eventWord op 0) := by
  simp only [decodeEvent, eventWord_op, eventWord_arg]
  obtain ⟨code⟩ := op
  fin_cases code <;> rfl

/-- Settles O6: the decoded row keeps no `arg`; `TICK` reads its own through `Cfg.rawSample` alone. -/
theorem ignoredBitsSelectNothing : Obligations.IgnoredBitsSelectNothing := by
  refine ⟨fun op arg arg' h0 h4 => ?_, fun s arg arg' h => ?_⟩
  · rw [decodeEvent_eventWord op arg, decodeEvent_eventWord op arg']
    simp only [if_neg h0, if_neg h4]
  · have hraw : s.cfg.rawSample arg = s.cfg.rawSample arg' := congrArg (BitVec.ofNat 16) h
    have hbegin : s.begin.cfg = s.cfg := rfl
    simp only [Machine.exec, Machine.execTick, hbegin, hraw]

/-! ## The operation map -/

theorem decodeEvent_row (w : EventWord) :
    ∃ r ∈ eventTable, r.name = (decodeEvent w).mnemonic ∧ r.has w = true := by
  rw [eventWord_fields w]
  generalize w.extractLsb' 16 4 = op, w.extractLsb' 0 16 = arg
  have hname : (decodeEvent (eventWord op arg)).mnemonic = (decodeEvent (eventWord op 0)).mnemonic := by
    rw [decodeEvent_eventWord]
    split
    · next h => rw [h, decodeEvent_eventWord, if_pos rfl]; rfl
    · split
      · next h => rw [h, decodeEvent_eventWord, if_neg (by decide), if_pos rfl]; rfl
      · rfl
  rw [hname]
  refine Laws.eventRow op arg _ ?_
  clear hname
  revert op
  decide

theorem eventTable_mask : ∀ r ∈ eventTable, r.mask = 0xF0000 := by decide

theorem eventTable_eq_of_pattern : ∀ r ∈ eventTable, ∀ q ∈ eventTable, r.pattern = q.pattern → r = q := by decide

theorem eventTable_eq_of_name : ∀ r ∈ eventTable, ∀ q ∈ eventTable, r.name = q.name → r = q := by decide

/-- Settles O3: a word is of the row its instruction is, and it is of one row alone, all masks being one. -/
theorem eventDecodingFollowsOperationMap : Obligations.EventDecodingFollowsOperationMap := by
  intro w r hr
  obtain ⟨q, hq, hname, hhas⟩ := decodeEvent_row w
  refine ⟨fun h => ?_, fun h => ?_⟩
  · have hrw := beq_iff_eq.mp h
    have hqw := beq_iff_eq.mp hhas
    rw [eventTable_mask r hr] at hrw
    rw [eventTable_mask q hq] at hqw
    rw [← hname, eventTable_eq_of_pattern r hr q hq (hrw.symm.trans hqw)]
  · rwa [eventTable_eq_of_name r hr q hq (h.symm.trans hname.symm)]

/-! ## The effect map -/

theorem effectTable_eq_of_name : ∀ r ∈ effectTable, ∀ q ∈ effectTable, r.name = q.name → r = q := by decide

/-- The rows field by field: `eop`, `ph` and `val`, each under its own mask. -/
theorem effectTable_fields :
    effectTable =
      [⟨"PWM_ENABLE", effectWord 0 0 0, effectWord 7 0 0⟩, ⟨"PWM_DISABLE", effectWord 1 0 0, effectWord 7 0 0xFFFF⟩,
        ⟨"OUTPUT_LOW", effectWord 2 0 0, effectWord 7 0 0xFFFF⟩, ⟨"HB_ENABLE", effectWord 3 0 0, effectWord 7 0 0xFFFE⟩,
        ⟨"MASTER_ENABLE", effectWord 4 0 0, effectWord 7 3 0xFFFE⟩,
        ⟨"ARM_TIMER", effectWord 5 0 0, effectWord 7 3 0⟩] := by decide

theorem Row.has_effectWord {name : String} {e em eop : BitVec 3} {p pm ph : BitVec 2} {x xm v : Word} :
    Row.has ⟨name, effectWord e p x, effectWord em pm xm⟩ (effectWord eop ph v) = true ↔
      eop &&& em = e ∧ ph &&& pm = p ∧ v &&& xm = x := by
  rw [Row.has, beq_iff_eq, effectWord_and, effectWord_inj]

theorem exists_phase_code {ph : BitVec 2} (h : ph ≠ 3) : ∃ p : Phase, ph = p.code := by
  have codes : ∀ ph : BitVec 2, ph ≠ 3 → ph = Phase.code .a ∨ ph = Phase.code .b ∨ ph = Phase.code .c := by decide
  rcases codes ph h with h | h | h <;> exact ⟨_, h⟩

theorem exists_bitField {v : Word} (h : v &&& 0xFFFE = 0) : ∃ on, v = bitField on := by
  have hv : v = v &&& 1 := by
    calc v = v &&& (0xFFFE ||| 1) := (BitVec.and_allOnes (x := v)).symm
      _ = 0 ||| (v &&& 1) := by rw [BitVec.and_or_distrib_left, h]
      _ = v &&& 1 := BitVec.zero_or
  have hbit : v.toNat % 2 = v.toNat := by
    conv_rhs => rw [hv]
    exact (Nat.and_one_is_mod v.toNat).symm
  rcases Nat.mod_two_eq_zero_or_one v.toNat with h0 | h1
  · exact ⟨false, BitVec.eq_of_toNat_eq (hbit.symm.trans h0)⟩
  · exact ⟨true, BitVec.eq_of_toNat_eq (hbit.symm.trans h1)⟩

/-- A word that meets a row of the effect map, with a phase field that names a phase, is the encoder's word of an effect
of that row. -/
theorem encode_of_effectTable {w : EffectWord} {r : Row 21} (hr : r ∈ effectTable) (hw : r.has w = true)
    (hph : w.extractLsb' 16 2 ≠ 3) : ∃ e : Effect, w = e.encode ∧ e.toInstr.mnemonic = r.name := by
  obtain ⟨p, hp⟩ := exists_phase_code hph
  rw [effectWord_fields w, hp] at hw ⊢
  generalize w.extractLsb' 18 3 = eop, w.extractLsb' 0 16 = v at hw ⊢
  have heop : eop &&& 7 = eop := BitVec.and_allOnes
  have hpm : p.code &&& 3 = p.code := BitVec.and_allOnes
  have hvm : v &&& 0xFFFF = v := BitVec.and_allOnes
  rw [effectTable_fields] at hr
  simp only [List.mem_cons, List.not_mem_nil, or_false] at hr
  rcases hr with rfl | rfl | rfl | rfl | rfl | rfl <;>
    obtain ⟨he, hp', hv⟩ := Row.has_effectWord.mp hw <;> rw [heop] at he <;> subst he
  · exact ⟨.pwmEnable p v, rfl, rfl⟩
  · exact ⟨.pwmDisable p, by rw [← hvm, hv, Effect.encode], rfl⟩
  · exact ⟨.outputLow p, by rw [← hvm, hv, Effect.encode], rfl⟩
  · obtain ⟨on, rfl⟩ := exists_bitField hv
    exact ⟨.hbEnable p on, rfl, rfl⟩
  · obtain ⟨on, rfl⟩ := exists_bitField hv
    exact ⟨.masterEnable on, by rw [← hpm, hp', Effect.encode], rfl⟩
  · exact ⟨.armTimer v, by rw [← hpm, hp', Effect.encode], rfl⟩

theorem Effect.encode_row (e : Effect) :
    ∃ r ∈ effectTable, r.name = e.toInstr.mnemonic ∧ r.has e.encode = true := by
  cases e with
  | pwmEnable p d => exact Laws.TableRow.pwmEnable p d
  | pwmDisable p => exact Laws.TableRow.pwmDisable p
  | outputLow p => exact Laws.TableRow.outputLow p
  | hbEnable p on => exact Laws.TableRow.hbEnable p on
  | masterEnable on => exact Laws.TableRow.masterEnable on
  | armTimer t => exact Laws.TableRow.armTimer t

theorem Phase.code_ne_three (p : Phase) : p.code ≠ 3 := by cases p <;> decide

theorem Effect.encode_phase_ne_three (e : Effect) : e.encode.extractLsb' 16 2 ≠ 3 := by
  cases e with
  | pwmEnable p d | pwmDisable p | outputLow p | hbEnable p on =>
    rw [Effect.encode, effectWord_ph]
    exact p.code_ne_three
  | masterEnable on | armTimer t =>
    rw [Effect.encode, effectWord_ph]
    decide

/-- Settles O4: the words accepted are the encoder's, each of them of its own row and with a phase field below 3. -/
theorem effectDecodingFollowsEffectMap : Obligations.EffectDecodingFollowsEffectMap := by
  intro w r hr
  constructor
  · rintro ⟨hw, hph⟩
    obtain ⟨e, rfl, hname⟩ := encode_of_effectTable hr hw hph
    exact ⟨e, decodeEffect_encode e, hname⟩
  · rintro ⟨e, he, hname⟩
    obtain rfl := encode_of_decodeEffect he
    obtain ⟨q, hq, hqname, hqw⟩ := e.encode_row
    rw [effectTable_eq_of_name r hr q hq (hname.symm.trans hqname.symm)]
    exact ⟨hqw, e.encode_phase_ne_three⟩

/-! ## Words of the spec's vectors -/

/-- Settles O5, by evaluating the decoder on the eleven words. -/
theorem wordsOfTheVectorsDecode : Obligations.WordsOfTheVectorsDecode := by
  refine ⟨?_, ?_, ?_, ?_, ?_, ?_, ?_, ?_, ?_, ?_, ?_⟩ <;> rfl

end Sys2Proof
end

section
/-!
What an instruction can do, said once. Every instruction completes (R210), and what it leaves is one of nine shapes:
the two paths of `TICK`, `UPDATE`, the stop procedure, a start requested, a period set by hand, a duty moved, an
answer alone, and one effect word. The statements about every instruction or every step are case analyses of `Leaves`.
-/

namespace Sys2Proof.Machine

/-- `TICK` once its counter is stepped (R160). -/
def State.tickBegin (s : State) : State := { s.begin with tickCounter := nextTick s.tickCounter }

/-- A start accepted in `Off`: the state whose first ramp step the same `UPDATE` takes (R102, R103). -/
def State.started (s : State) : State := { s.offStep.clearStart with runState := .rampUp }

theorem State.updateBranch_of_idle {s : State} (hoff : s.runState = .off) (hreq : s.startReq = false) :
    s.updateBranch = s.offStep := by
  have hreq' : s.offStep.startReq = false := hreq
  simp [updateBranch, hoff, hreq']

theorem State.updateBranch_of_start {s : State} (hoff : s.runState = .off) (hreq : s.startReq = true) :
    s.updateBranch = s.started.rampStep := by
  have hreq' : s.offStep.startReq = true := hreq
  simp [updateBranch, hoff, hreq', started]

theorem State.updateBranch_of_rampUp {s : State} (hramp : s.runState = .rampUp) :
    s.updateBranch = s.rampStep := by
  simp only [updateBranch, hramp]

/-! ## The operations by run state -/

theorem exec_tick_of_off {s : State} (hoff : s.runState = .off) (arg : Word) :
    exec (.tick arg) s = .next s.tickBegin.idlePath := by
  simp [exec, execTick, State.tickBegin, hoff]

theorem exec_startRamp_of_off {s : State} (hoff : s.runState = .off) :
    exec .startRamp s = .next s.begin.requestStart := by
  simp [exec, execStartRamp, hoff]

theorem exec_startRamp_of_running {s : State} (hrun : s.running) : exec .startRamp s = .next s.begin := by
  cases hr : s.runState with
  | off => exact absurd hr hrun
  | rampUp | on => simp [exec, execStartRamp, hr]

theorem exec_manSpdInc_of_off {s : State} (hoff : s.runState = .off) :
    exec .manSpdInc s = .next s.begin.requestStart := by
  simp [exec, execManSpdInc, hoff]

theorem exec_manSpdInc_of_rampUp {s : State} (hramp : s.runState = .rampUp) :
    exec .manSpdInc s = .next s.begin := by
  simp [exec, execManSpdInc, hramp]

theorem exec_manSpdInc_of_on {s : State} (hon : s.runState = .on) :
    exec .manSpdInc s = .next { s.begin.setManual with period := satSub s.period s.cfg.manualStep } := by
  simp [exec, execManSpdInc, hon]

theorem exec_manSpdDec_of_not_on {s : State} (hne : s.runState ≠ .on) : exec .manSpdDec s = .next s.begin := by
  cases hr : s.runState with
  | off | rampUp => simp [exec, execManSpdDec, hr]
  | on => exact absurd hr hne

theorem exec_manSpdDec_of_on {s : State} (hon : s.runState = .on) :
    exec .manSpdDec s = .next { s.begin.setManual with period := satAdd s.period s.cfg.manualStep } := by
  simp [exec, execManSpdDec, hon]

theorem State.nudge_of_off {s : State} (hoff : s.runState = .off) (c : Word) : s.nudge c = s.requestStart := by
  simp only [nudge, hoff]

theorem State.nudge_of_rampUp {s : State} (hramp : s.runState = .rampUp) (c : Word) : s.nudge c = s := by
  simp only [nudge, hramp]

theorem State.nudge_of_on {s : State} (hon : s.runState = .on) (c : Word) :
    s.nudge c =
      if s.duty.toNat < c.toNat then s.increment
      else if c.toNat < s.duty.toNat then s.decrement
      else s := by
  simp only [nudge, hon]

/-! ## The regions of SET_CMD_DUTY -/

theorem exec_setCmdDuty_of_run {s : State} {c : Word} (hrun : s.cfg.cmdStartThreshold.toNat < c.toNat) :
    exec (.setCmdDuty c) s = .next (s.begin.nudge c) := if_pos hrun

theorem exec_setCmdDuty_of_stop {s : State} {c : Word} (hrun : ¬s.cfg.cmdStartThreshold.toNat < c.toNat)
    (hstop : c.toNat < s.cfg.cmdStopThreshold.toNat) :
    exec (.setCmdDuty c) s = .next s.begin.stopProcedure := (if_neg hrun).trans (if_pos hstop)

theorem exec_setCmdDuty_of_deadBand {s : State} {c : Word} (hrun : ¬s.cfg.cmdStartThreshold.toNat < c.toNat)
    (hstop : ¬c.toNat < s.cfg.cmdStopThreshold.toNat) :
    exec (.setCmdDuty c) s = .next s.begin := (if_neg hrun).trans (if_neg hstop)

/-! ## What an instruction can leave -/

/-- What `i` can leave of `s`, and when. -/
inductive Leaves (i : Instr) (s : State) : State → Prop
  | idleTick (arg : Word) (hi : i = .tick arg) (hoff : s.runState = .off) : Leaves i s s.tickBegin.idlePath
  | runTick (arg : Word) (hi : i = .tick arg) (hrun : s.running) :
      Leaves i s (s.tickBegin.runTick s.tickCounter (s.cfg.rawSample arg))
  | update (hi : i = .update) : Leaves i s (s.begin.updateBranch.emit (.armTimer s.begin.updateBranch.period))
  | stop (hi : i.stops s.cfg = true) : Leaves i s s.begin.stopProcedure
  | request (hi : i = .startRamp ∨ i = .manSpdInc ∨ ∃ c, i = .setCmdDuty c) (hoff : s.runState = .off) :
      Leaves i s s.begin.requestStart
  | manual (period : Word) (hi : i = .manSpdInc ∨ i = .manSpdDec) (hon : s.runState = .on) :
      Leaves i s { s.begin with manualFlag := true, period := period }
  | duty (duty : Word) (hi : i = .dutyInc ∨ i = .dutyDec ∨ ∃ c, i = .setCmdDuty c)
      (hguard : s.duty.toNat ≤ s.cfg.dutyGuard.toNat → duty.toNat ≤ s.cfg.dutyGuard.toNat) :
      Leaves i s { s.begin with duty := duty }
  | answer (response : Option Response) : Leaves i s { s with response := response, effects := [] }
  | word (e : Effect) (hi : i = e.toInstr) : Leaves i s (s.beginEffect.emit e)

theorem Leaves.nothing (i : Instr) (s : State) : Leaves i s s.begin := .answer _

theorem State.increment_guard {s : State} (h : s.duty.toNat ≤ s.cfg.dutyGuard.toNat) :
    s.increment.duty.toNat ≤ s.cfg.dutyGuard.toNat := by
  have := s.cfg.dutyGuard.isLt
  simp only [increment_eq]
  split
  · rw [succ_toNat (by omega)]
    omega
  · exact h

theorem State.decrement_guard {s : State} (h : s.duty.toNat ≤ s.cfg.dutyGuard.toNat) :
    s.decrement.duty.toNat ≤ s.cfg.dutyGuard.toNat := by
  simp only [decrement_eq]
  split
  · next hpos =>
    rw [pred_toNat hpos]
    omega
  · exact h

theorem Leaves.increment {i : Instr} (s : State) (hi : i = .dutyInc ∨ i = .dutyDec ∨ ∃ c, i = .setCmdDuty c) :
    Leaves i s s.begin.increment := by
  have hguard := State.increment_guard (s := s.begin)
  rw [State.increment_eq] at hguard ⊢
  exact .duty _ hi hguard

theorem Leaves.decrement {i : Instr} (s : State) (hi : i = .dutyInc ∨ i = .dutyDec ∨ ∃ c, i = .setCmdDuty c) :
    Leaves i s s.begin.decrement := by
  have hguard := State.decrement_guard (s := s.begin)
  rw [State.decrement_eq] at hguard ⊢
  exact .duty _ hi hguard

/-- The run region of `SET_CMD_DUTY` (R184), in each run state. -/
theorem Leaves.nudge (c : Word) (s : State) : Leaves (.setCmdDuty c) s (s.begin.nudge c) := by
  cases hr : s.runState with
  | off =>
    rw [State.nudge_of_off (s := s.begin) hr]
    exact .request (.inr (.inr ⟨c, rfl⟩)) hr
  | rampUp =>
    rw [State.nudge_of_rampUp (s := s.begin) hr]
    exact .nothing _ s
  | on =>
    rw [State.nudge_of_on (s := s.begin) hr]
    split
    · exact .increment s (.inr (.inr ⟨c, rfl⟩))
    · split
      · exact .decrement s (.inr (.inr ⟨c, rfl⟩))
      · exact .nothing _ s

/-- R210: every instruction completes. -/
theorem exec_leaves (i : Instr) (s : State) : ∃ t, exec i s = .next t ∧ Leaves i s t := by
  cases i with
  | tick arg =>
    by_cases hrun : s.running
    · exact ⟨_, exec_tick_of_running hrun arg, .runTick arg rfl hrun⟩
    · have hoff : s.runState = .off := not_not.mp hrun
      exact ⟨_, exec_tick_of_off hoff arg, .idleTick arg rfl hoff⟩
  | update => exact ⟨_, exec_update s, .update rfl⟩
  | startRamp =>
    by_cases hrun : s.running
    · exact ⟨_, exec_startRamp_of_running hrun, .nothing _ s⟩
    · have hoff : s.runState = .off := not_not.mp hrun
      exact ⟨_, exec_startRamp_of_off hoff, .request (.inl rfl) hoff⟩
  | manSpdInc =>
    cases hr : s.runState with
    | off => exact ⟨_, exec_manSpdInc_of_off hr, .request (.inr (.inl rfl)) hr⟩
    | rampUp => exact ⟨_, exec_manSpdInc_of_rampUp hr, .nothing _ s⟩
    | on => exact ⟨_, exec_manSpdInc_of_on hr, .manual _ (.inl rfl) hr⟩
  | manSpdDec =>
    by_cases hon : s.runState = .on
    · exact ⟨_, exec_manSpdDec_of_on hon, .manual _ (.inr rfl) hon⟩
    · exact ⟨_, exec_manSpdDec_of_not_on hon, .nothing _ s⟩
  | setCmdDuty c =>
    by_cases hrun : s.cfg.cmdStartThreshold.toNat < c.toNat
    · exact ⟨_, exec_setCmdDuty_of_run hrun, .nudge c s⟩
    · by_cases hstop : c.toNat < s.cfg.cmdStopThreshold.toNat
      · exact ⟨_, exec_setCmdDuty_of_stop hrun hstop, .stop (by simp [Instr.stops, hstop, not_lt.mp hrun])⟩
      · exact ⟨_, exec_setCmdDuty_of_deadBand hrun hstop, .nothing _ s⟩
  | stop => exact ⟨_, rfl, .stop rfl⟩
  | dutyInc => exact ⟨_, rfl, .increment s (.inl rfl)⟩
  | dutyDec => exact ⟨_, rfl, .decrement s (.inr (.inl rfl))⟩
  | getDuty | getPeriod | getFault | getVsys | getZc | getState | reservedF => exact ⟨_, rfl, .answer _⟩
  | pwmEnable p d => exact ⟨_, rfl, .word (.pwmEnable p d) rfl⟩
  | pwmDisable p => exact ⟨_, rfl, .word (.pwmDisable p) rfl⟩
  | outputLow p => exact ⟨_, rfl, .word (.outputLow p) rfl⟩
  | hbEnable p on => exact ⟨_, rfl, .word (.hbEnable p on) rfl⟩
  | masterEnable on => exact ⟨_, rfl, .word (.masterEnable on) rfl⟩
  | armTimer t => exact ⟨_, rfl, .word (.armTimer t) rfl⟩

theorem leaves_of_exec {i : Instr} {s t : State} (h : exec i s = .next t) : Leaves i s t := by
  obtain ⟨u, hu, hleaves⟩ := exec_leaves i s
  cases h.symm.trans hu
  exact hleaves

theorem exec_total (i : Instr) (s : State) : ∃ t, exec i s = .next t :=
  (exec_leaves i s).imp fun _ => And.left

end Sys2Proof.Machine
end

section
/-!
PROOF of the statements about a step: what the ports give it to run (R213, R214), what it leaves of the ports and the
configuration, and that the instruction run neither reads nor writes the request lines.
-/

namespace Sys2Proof.Machine

/-! ## What a step of a legal machine runs -/

theorem State.fetch_of_noLine {s : State} (hlegal : s.cfg.legal = true) (hline : s.ports.effectLine = none) :
    s.fetch = if s.ports.resetAsserted then .settled s.resetNow else s.fetchEvent := by
  simp only [fetch, hlegal, hline, if_true]

theorem step_of_requested {s : State} {i : Instr} {p : Ports} (hlegal : s.cfg.legal = true)
    (hline : s.ports.effectLine = none) (hrst : s.ports.resetAsserted = false)
    (hreq : s.ports.arrive.arbitrate = some (i, p)) : step s = exec i { s with ports := p } := by
  simp [step, State.fetch_of_noLine hlegal hline, hrst, State.fetchEvent, hreq]

theorem step_of_unrequested {s : State} (hlegal : s.cfg.legal = true)
    (hline : s.ports.effectLine = none) (hrst : s.ports.resetAsserted = false)
    (hreq : s.ports.arrive.arbitrate = none) : step s = .next (s.wait s.ports.arrive) := by
  simp [step, State.fetch_of_noLine hlegal hline, hrst, State.fetchEvent, hreq]

theorem step_of_reset {s : State} (hlegal : s.cfg.legal = true)
    (hline : s.ports.effectLine = none) (hrst : s.ports.resetAsserted = true) : step s = .next s.resetNow := by
  simp [step, State.fetch_of_noLine hlegal hline, hrst]

theorem step_of_effectLine {s : State} {w : EffectWord} {e : Effect} (hlegal : s.cfg.legal = true)
    (hline : s.ports.effectLine = some w) (hw : decodeEffect w = .ok e) :
    step s = exec e.toInstr { s with ports := { s.ports with effectLine := none, ack := none } } := by
  simp [step, State.fetch, State.fetchEffect, hlegal, hline, hw]

theorem step_of_effectLine_error {s : State} {w : EffectWord} {e : DecodeError} (hlegal : s.cfg.legal = true)
    (hline : s.ports.effectLine = some w) (hw : decodeEffect w = .error e) :
    step s = .refused (.illegalEffectWord e) := by
  simp [step, State.fetch, State.fetchEffect, hlegal, hline, hw]

/-! ## The order of R214 -/

theorem Ports.arbitrate_of_tick {p : Ports} {adc : Word} (h : p.tickReq = some adc) :
    p.arbitrate = some (.tick adc, { p with tickReq := none, ack := some .subSector }) := by
  simp [arbitrate, h]

theorem Ports.arbitrate_of_update {p : Ports} (htick : p.tickReq = none) (hupd : p.updReq = true) :
    p.arbitrate = some (.update, { p with updReq := false, ack := some .update }) := by
  simp [arbitrate, htick, hupd]

theorem Ports.arbitrate_of_command {p : Ports} {w : EventWord} (htick : p.tickReq = none)
    (hupd : p.updReq = false) (hcmd : p.cmdReq = some w) :
    p.arbitrate = some (decodeEvent w, { p with cmdReq := none, ack := some .background }) := by
  simp [arbitrate, htick, hupd, hcmd]

theorem Ports.arbitrate_of_quiet {p : Ports} (htick : p.tickReq = none) (hupd : p.updReq = false)
    (hcmd : p.cmdReq = none) : p.arbitrate = none := by
  simp [arbitrate, htick, hupd, hcmd]

/-- Settles O7: the three cases of the arbiter. -/
theorem stepRunsRequestedOperation : Obligations.StepRunsRequestedOperation := by
  intro s hlegal hline hrst
  refine ⟨fun adc hadc => ?_, fun htick hupd => ?_, fun htick hupd w i hcmd hi => ?_⟩
  · exact step_of_requested hlegal hline hrst (Ports.arbitrate_of_tick hadc)
  · exact step_of_requested hlegal hline hrst (Ports.arbitrate_of_update htick hupd)
  · cases hi
    exact step_of_requested hlegal hline hrst (Ports.arbitrate_of_command htick hupd hcmd)

theorem decode_effect_error {w : EffectWord} {e : DecodeError} (h : decode (.effect w) = .error e) :
    decodeEffect w = .error e := by
  rw [decode] at h
  cases hw : decodeEffect w with
  | ok f =>
    rw [hw] at h
    cases h
  | error f =>
    rw [hw] at h
    cases h
    rfl

/-- Settles O8: an event word is placed alone on the command port behind a quiet arrival, an effect word on the line
that a step looks at first. -/
theorem placedWordIsRunNext : Obligations.PlacedWordIsRunNext := by
  intro s hlegal
  refine ⟨fun i hi => ?_, fun i hi => ?_, fun w e he => ?_⟩
  · obtain ⟨w, hw, rfl⟩ := decodeEvent_encode (i := i) (by simp [Instr.wellFormedOn, hi])
    rw [hw]
    exact step_of_requested (s := s.place (.event w)) hlegal rfl rfl (Ports.arbitrate_of_command rfl rfl rfl)
  · rcases i.isEvent_or_toInstr with hev | ⟨e, rfl⟩
    · simp [Instr.wellFormedOn, hi] at hev
    · rw [encode_toInstr]
      exact step_of_effectLine (s := s.place (.effect e.encode)) hlegal rfl (decodeEffect_encode e)
  · exact step_of_effectLine_error (s := s.place (.effect w)) hlegal rfl (decode_effect_error he)

/-- Settles O9: an arrival replaces a request where it raises one, and a step with none is a wait. -/
theorem requestsMergeAndBlockWaits : Obligations.RequestsMergeAndBlockWaits := by
  refine ⟨fun p a rest hp => ?_, fun s hlegal hline hrst htick hupd hcmd => ?_⟩
  · obtain ⟨rst, tick, upd, cmd⟩ := a
    cases tick <;> cases cmd <;> simp [Ports.arrive, Ports.raise, hp]
  · exact step_of_unrequested hlegal hline hrst (Ports.arbitrate_of_quiet htick hupd hcmd)

/-- Settles O10: a reset wins over the requests, and its state is the record of R230. -/
theorem resetLoadsResetValues : Obligations.ResetLoadsResetValues := by
  refine ⟨fun s a rest hlegal hline hsched hrst => ?_, fun c => rfl⟩
  have hasserted : s.ports.resetAsserted = true := by simp [Ports.resetAsserted, hsched, hrst]
  rw [step_of_reset hlegal hline hasserted, State.resetNow, hsched]
  rfl

/-- Settles O11: each operation evaluated from reset. -/
theorem firstOperationAfterReset : Obligations.FirstOperationAfterReset := by
  refine fun c => ⟨fun arg => ?_, ⟨_, exec_update _, rfl, rfl⟩, ⟨_, rfl, rfl⟩, ?_⟩
  · exact ⟨_, exec_tick_of_off rfl arg, rfl, rfl⟩
  · simp only [List.forall_mem_cons, List.not_mem_nil, false_imp_iff, implies_true, and_true]
    exact ⟨⟨_, rfl, rfl⟩, ⟨_, rfl, rfl⟩, ⟨_, rfl, rfl⟩, ⟨_, rfl, rfl⟩, ⟨_, rfl, rfl⟩⟩

/-! ## What stands: the configuration and the ports -/

@[simp] theorem State.updateBranch_ports (s : State) : s.updateBranch.ports = s.ports := by
  rw [s.updateBranch_frame]

theorem Leaves.cfg_ports {i : Instr} {s t : State} (h : Leaves i s t) : t.cfg = s.cfg ∧ t.ports = s.ports := by
  cases h with
  | idleTick => simp only [State.idlePath_eq]; exact ⟨rfl, rfl⟩
  | runTick => rw [State.runTick_frame]; exact ⟨rfl, rfl⟩
  | update => simp
  | stop | request | manual | duty | answer | word => exact ⟨rfl, rfl⟩

theorem exec_cfg {i : Instr} {s t : State} (h : exec i s = .next t) : t.cfg = s.cfg := (leaves_of_exec h).cfg_ports.1

theorem exec_ports {i : Instr} {s t : State} (h : exec i s = .next t) : t.ports = s.ports :=
  (leaves_of_exec h).cfg_ports.2

/-- Settles O13: what a step runs stands, and so do reset and waiting. -/
theorem stepKeepsConfiguration : Obligations.StepKeepsConfiguration := by
  intro s t h
  rcases step_cases h with ⟨i, s', hfetch, hexec⟩ | hfetch
  · obtain ⟨-, hs', -⟩ := State.fetch_run hfetch
    rw [exec_cfg hexec, hs']
  · obtain ⟨-, -, ⟨-, rfl⟩ | ⟨-, -, rfl⟩⟩ := State.fetch_settled hfetch <;> rfl

/-- Settles O12: with no effect word waiting a legal machine resets, waits, or runs an instruction, which completes. -/
theorem onlyIllegalConfigurationsStop : Obligations.OnlyIllegalConfigurationsStop := by
  refine fun s => ⟨fun hillegal => by simp [step, State.fetch, hillegal], fun hlegal hline => ?_⟩
  cases hrst : s.ports.resetAsserted with
  | true => exact ⟨_, step_of_reset hlegal hline hrst, rfl⟩
  | false =>
    cases hreq : s.ports.arrive.arbitrate with
    | none => exact ⟨_, step_of_unrequested hlegal hline hrst hreq, by simp [State.wait, hline]⟩
    | some r =>
      obtain ⟨i, p⟩ := r
      obtain ⟨t, ht⟩ := exec_total i { s with ports := p }
      refine ⟨t, by rw [step_of_requested hlegal hline hrst hreq, ht], ?_⟩
      rw [exec_ports ht, Ports.arbitrate_effectLine hreq, Ports.arrive_effectLine, hline]

/-! ## The ports are neither read nor written -/

/-- The machine with other ports. -/
def State.withPorts (p : Ports) (s : State) : State := { s with ports := p }

theorem State.rampStep_withPorts (p : Ports) (s : State) : (s.withPorts p).rampStep = s.rampStep.withPorts p := by
  simp only [rampStep_eq, withPorts]
  split <;> rfl

theorem State.onStep_withPorts (p : Ports) (s : State) : (s.withPorts p).onStep = s.onStep.withPorts p := by
  simp only [onStep, timingCorrect_eq, faultForce_eq, faultLatch_eq, bucketStep_eq, vsysAverage, withPorts]

theorem State.updateBranch_withPorts (p : Ports) (s : State) :
    (s.withPorts p).updateBranch = s.updateBranch.withPorts p := by
  have hr : (s.withPorts p).runState = s.runState := rfl
  cases hs : s.runState with
  | off =>
    cases hreq : s.startReq with
    | false =>
      rw [updateBranch_of_idle hs hreq, updateBranch_of_idle (s := s.withPorts p) hs hreq]
      rfl
    | true =>
      rw [updateBranch_of_start hs hreq, updateBranch_of_start (s := s.withPorts p) hs hreq,
        ← rampStep_withPorts]
      rfl
  | rampUp =>
    rw [updateBranch_of_rampUp hs, updateBranch_of_rampUp (s := s.withPorts p) hs, rampStep_withPorts]
  | on => rw [updateBranch_of_on hs, updateBranch_of_on (s := s.withPorts p) hs, onStep_withPorts]

theorem State.runTick_withPorts (p : Ports) (s : State) (idx : Fin 4) (raw : Word) :
    (s.withPorts p).runTick idx raw = (s.runTick idx raw).withPorts p := by
  by_cases hidx : idx = 3
  · subst hidx
    simp only [runTick_fourth, advanceSector, switchTo_eq, qualify_eq, storeSample, masterOn_eq, withPorts]
    rfl
  · simp only [runTick_before_fourth hidx, storeSample, masterOn_eq, withPorts]

theorem State.nudge_withPorts (p : Ports) (s : State) (c : Word) :
    (s.withPorts p).nudge c = (s.nudge c).withPorts p := by
  cases hr : s.runState with
  | off =>
    rw [nudge_of_off hr, nudge_of_off (s := s.withPorts p) hr]
    rfl
  | rampUp => rw [nudge_of_rampUp hr, nudge_of_rampUp (s := s.withPorts p) hr]
  | on =>
    rw [nudge_of_on hr, nudge_of_on (s := s.withPorts p) hr, increment_eq, increment_eq, decrement_eq, decrement_eq]
    simp only [apply_ite (withPorts p)]
    rfl

/-- Every rule of `exec` holds under other ports as it stands. -/
theorem exec_withPorts (i : Instr) (s : State) :
    ∃ t, exec i s = .next t ∧ ∀ p, exec i (s.withPorts p) = .next (t.withPorts p) := by
  have hbegin (p : Ports) : (s.withPorts p).begin = s.begin.withPorts p := rfl
  cases i with
  | tick arg =>
    by_cases hrun : s.running
    · refine ⟨_, exec_tick_of_running hrun arg, fun p => ?_⟩
      rw [exec_tick_of_running (s := s.withPorts p) hrun, ← State.runTick_withPorts]
      rfl
    · have hoff : s.runState = .off := not_not.mp hrun
      exact ⟨_, exec_tick_of_off hoff arg, fun p => exec_tick_of_off (s := s.withPorts p) hoff arg⟩
  | update =>
    refine ⟨_, exec_update s, fun p => ?_⟩
    rw [exec_update, hbegin, State.updateBranch_withPorts]
    rfl
  | startRamp =>
    by_cases hrun : s.running
    · exact ⟨_, exec_startRamp_of_running hrun, fun p => exec_startRamp_of_running (s := s.withPorts p) hrun⟩
    · have hoff : s.runState = .off := not_not.mp hrun
      exact ⟨_, exec_startRamp_of_off hoff, fun p => exec_startRamp_of_off (s := s.withPorts p) hoff⟩
  | manSpdInc =>
    cases hr : s.runState with
    | off => exact ⟨_, exec_manSpdInc_of_off hr, fun p => exec_manSpdInc_of_off (s := s.withPorts p) hr⟩
    | rampUp => exact ⟨_, exec_manSpdInc_of_rampUp hr, fun p => exec_manSpdInc_of_rampUp (s := s.withPorts p) hr⟩
    | on => exact ⟨_, exec_manSpdInc_of_on hr, fun p => exec_manSpdInc_of_on (s := s.withPorts p) hr⟩
  | manSpdDec =>
    by_cases hon : s.runState = .on
    · exact ⟨_, exec_manSpdDec_of_on hon, fun p => exec_manSpdDec_of_on (s := s.withPorts p) hon⟩
    · exact ⟨_, exec_manSpdDec_of_not_on hon, fun p => exec_manSpdDec_of_not_on (s := s.withPorts p) hon⟩
  | setCmdDuty c =>
    by_cases hrun : s.cfg.cmdStartThreshold.toNat < c.toNat
    · refine ⟨_, exec_setCmdDuty_of_run hrun, fun p => ?_⟩
      rw [exec_setCmdDuty_of_run (s := s.withPorts p) hrun, hbegin, State.nudge_withPorts]
    · by_cases hstop : c.toNat < s.cfg.cmdStopThreshold.toNat
      · exact ⟨_, exec_setCmdDuty_of_stop hrun hstop,
          fun p => exec_setCmdDuty_of_stop (s := s.withPorts p) hrun hstop⟩
      · exact ⟨_, exec_setCmdDuty_of_deadBand hrun hstop,
          fun p => exec_setCmdDuty_of_deadBand (s := s.withPorts p) hrun hstop⟩
  | dutyInc | dutyDec =>
    refine ⟨_, rfl, fun p => ?_⟩
    simp only [exec, execDutyInc, execDutyDec, hbegin, State.increment_eq, State.decrement_eq]
    rfl
  | stop | getDuty | getPeriod | getFault | getVsys | getZc | getState | reservedF | pwmEnable
  | pwmDisable | outputLow | hbEnable | masterEnable | armTimer => exact ⟨_, rfl, fun p => rfl⟩

/-- Settles O14. -/
theorem operationsAreTotalAndIgnorePorts : Obligations.OperationsAreTotalAndIgnorePorts := by
  intro i s
  obtain ⟨t, ht, hports⟩ := exec_withPorts i s
  exact ⟨t, ht, exec_ports ht, hports⟩

end Sys2Proof.Machine
end

section
/-!
PROOF of the statements about `TICK` and about effect lists. A running `TICK` in full is one record update, its words
the master switch (R166) and, at the fourth slot, those of the switch (R165); the shadows are the old ones with these
words written. How many words a switch has follows from how many phases of a legal row are in each class: one in each.
-/

namespace Sys2Proof

/-! ## The three phases of a legal row -/

/-- Every drive state is in one class. -/
theorem DriveState.one_class (d : DriveState) :
    (d == .off).toNat + (d == .drivenHigh).toNat + (d == .drivenLow).toNat + d.isFloat.toNat = 1 := by
  cases d <;> rfl

/-- With no phase `Off` and at most one in each other class, three phases fill the three classes (R140). -/
theorem PerPhase.count_eq_one_of_legal {t : PerPhase DriveState} (h : t.legal = true) :
    t.count (· == .drivenHigh) = 1 ∧ t.count (· == .drivenLow) = 1 ∧ t.count DriveState.isFloat = 1 := by
  obtain ⟨hhigh, hlow, hfloat⟩ := PerPhase.legal_counts h
  have hoff : t.count (· == .off) = 0 := by
    simp only [legal, noneOff, Bool.and_eq_true, beq_iff_eq] at h
    exact h.1.1.1
  have ha := t.a.one_class
  have hb := t.b.one_class
  have hc := t.c.one_class
  simp only [count] at hhigh hlow hfloat hoff ⊢
  omega

theorem PerPhase.exists_of_count_eq_one {t : PerPhase DriveState} {q : DriveState → Bool} (h : t.count q = 1) :
    ∃ p, q (t.get p) = true := by
  by_contra hnone
  have hfalse (p : Phase) : q (t.get p) = false := by simpa using not_exists.mp hnone p
  have ha : q t.a = false := hfalse .a
  have hb : q t.b = false := hfalse .b
  have hc : q t.c = false := hfalse .c
  simp [count, ha, hb, hc] at h

/-- The three phases of a legal row: one driven high, one driven low, one floating. -/
theorem PerPhase.exists_of_legal {t : PerPhase DriveState} (h : t.legal = true) :
    ∃ x y z, t.get x = .drivenHigh ∧ t.get y = .drivenLow ∧ (t.get z).isFloat = true := by
  obtain ⟨hhigh, hlow, hfloat⟩ := count_eq_one_of_legal h
  obtain ⟨x, hx⟩ := exists_of_count_eq_one hhigh
  obtain ⟨y, hy⟩ := exists_of_count_eq_one hlow
  obtain ⟨z, hz⟩ := exists_of_count_eq_one hfloat
  exact ⟨x, y, z, beq_iff_eq.mp hx, beq_iff_eq.mp hy, hz⟩


namespace Machine

/-! ## A running TICK in full -/

/-- The master switch is turned on when it is off (R166). -/
def State.masterWords (s : State) : List Effect := if s.shadow.masterEn then [] else [.masterEnable true]

/-- The words of the switch to the next sector (R165). -/
def State.sectorWords (s : State) : List Effect :=
  switchWords s.duty s.prevRow (s.cfg.pt.row (nextSector s.sector))

/-- The words of a running `TICK` at slot `idx` (R160). -/
def State.runWords (s : State) (idx : Fin 4) : List Effect :=
  s.masterWords ++ if idx = 3 then s.sectorWords else []

theorem Shadow.applyAll_masterWords (s : State) :
    s.shadow.applyAll s.masterWords = { s.shadow with masterEn := true } := by
  unfold State.masterWords
  split
  · next hon => rw [applyAll_nil, ← hon]
  · rfl

theorem State.runTick_of_ne_three {idx : Fin 4} (hidx : idx ≠ 3) (s : State) (raw : Word) :
    s.runTick idx raw = { s with
      work := s.work.set idx (s.cfg.delta raw)
      shadow := s.shadow.applyAll (s.runWords idx)
      effects := s.effects ++ s.runWords idx } := by
  rw [runTick_before_fourth hidx, masterOn_eq, runWords, if_neg hidx, List.append_nil, Shadow.applyAll_masterWords]
  rfl

theorem State.runTick_three (s : State) (raw : Word) :
    s.runTick 3 raw = { s with
      sector := nextSector s.sector
      prevSector := some (nextSector s.sector)
      work := s.work.set 3 (s.cfg.delta raw)
      qual := if (s.cfg.pt.row s.sector).a = .floatFalling then s.work.set 3 (s.cfg.delta raw) else s.qual
      zcIntegral :=
        if (s.cfg.pt.row s.sector).a = .floatFalling then signedSum s.work.s1 s.work.s2 else s.zcIntegral
      vbatt := if (s.cfg.pt.row s.sector).a = .drivenHigh then raw else s.vbatt
      shadow := s.shadow.applyAll (s.runWords 3)
      effects := s.effects ++ s.runWords 3 } := by
  rw [runTick_fourth, advanceSector, switchTo_eq, qualify_eq, masterOn_eq, runWords, if_pos rfl,
    Shadow.applyAll_append, Shadow.applyAll_masterWords, ← List.append_assoc]
  rfl

theorem State.runTick_shadow_effects (s : State) (idx : Fin 4) (raw : Word) :
    (s.runTick idx raw).shadow = s.shadow.applyAll (s.runWords idx) ∧
      (s.runTick idx raw).effects = s.effects ++ s.runWords idx := by
  by_cases hidx : idx = 3
  · subst hidx
    rw [runTick_three]
    exact ⟨rfl, rfl⟩
  · rw [runTick_of_ne_three hidx]
    exact ⟨rfl, rfl⟩

/-! ## TICK in each case -/

/-- Settles O30. -/
theorem tickInOffAssertsPosture : Obligations.TickInOffAssertsPosture := by
  intro s arg hoff
  rw [exec_tick_of_off hoff, State.idlePath_eq]
  rfl

/-- Settles O31: the stored value is the exact difference, because a legal `ADC_W` leaves room for it (R7(f)). -/
theorem tickStoresSample : Obligations.TickStoresSample := by
  intro s arg hlegal hrun hidx
  refine ⟨_, (Cfg.delta_toInt hlegal arg).1, ?_⟩
  rw [exec_tick_of_running hrun, State.runTick_before_fourth hidx, State.masterOn_eq]
  rfl

/-- Settles O32. -/
theorem tickEndsSector : Obligations.TickEndsSector := by
  intro s arg hlegal hrun hidx
  obtain ⟨-, -, -, -, -, -, -, -, -, hw, -⟩ := Cfg.legal_bounds hlegal
  have hraw := rawSample_toNat hw arg
  refine ⟨s.cfg.delta (s.cfg.rawSample arg), s.cfg.rawSample arg, _, s.runWords 3, hraw, ?_, rfl, rfl, ?_⟩
  · rw [hraw]
    exact (Cfg.delta_toInt hlegal arg).1
  · rw [exec_tick_of_running hrun, hidx, State.runTick_three]
    rfl

/-- The sum of two slots within the bounds of R43(h) is exact (R164). -/
theorem Slots.signedSum_toInt {w : Slots} {n : Nat} (hn : n ≤ 14) (h : w.within n) :
    (signedSum w.s1 w.s2).toInt = w.s1.toInt + w.s2.toInt := by
  have hpow : (2 : Int) ^ n ≤ 2 ^ 14 := pow_le_pow_right₀ (by norm_num) hn
  have h1 : -(2 ^ n - 1 : Int) ≤ w.s1.toInt ∧ w.s1.toInt ≤ 2 ^ n - 1 := h 1
  have h2 : -(2 ^ n - 1 : Int) ≤ w.s2.toInt ∧ w.s2.toInt ≤ 2 ^ n - 1 := h 2
  rw [signedSum, u16_toInt]
  omega

/-- Settles O33: each class of phase A's drive state picks one branch of `qualify`. -/
theorem fourthSlotQualifies : Obligations.FourthSlotQualifies := by
  refine ⟨fun s arg hinv hrun hidx => ?_, by decide⟩
  obtain ⟨-, -, -, -, -, -, -, -, -, hw, -⟩ := Cfg.legal_bounds hinv.legal
  refine ⟨_, exec_tick_of_running hrun arg, ?_⟩
  rw [hidx, State.runTick_three]
  refine ⟨fun hfall => ?_, fun hhigh => ?_, fun hrest => ?_⟩
  · have hsum := Slots.signedSum_toInt hw hinv.work
    simp only [State.begin_cfg, State.begin_sector, hfall, if_true, reduceCtorEq, if_false, true_and]
    exact ⟨hsum, rfl⟩
  · simp [hhigh, rawSample_toNat hw]
  · rcases hrest with hlow | hrise
    · simp [hlow]
    · simp [hrise]

/-! ## How many words a switch has -/

/-- A loop in which no phase but `p` has words. -/
theorem forPhases_of_unique {words : Phase → List Effect} {c : Phase → Prop} {p : Phase}
    (hone : ∀ q, c q → q = p) (hnil : ∀ q, ¬c q → words q = []) : forPhases words = words p := by
  have hother {q : Phase} (hq : q ≠ p) : words q = [] := hnil q fun hc => hq (hone q hc)
  have hsplit : forPhases words = words .a ++ (words .b ++ words .c) := by simp [forPhases, phases]
  rw [hsplit]
  cases p <;> simp [hother]

/-- A loop in which one phase at most has words emits no more than that phase. -/
theorem length_forPhases_le {words : Phase → List Effect} {n : Nat} {c : Phase → Prop}
    (hone : ∀ p q, c p → c q → p = q) (hnil : ∀ p, ¬c p → words p = []) (hlen : ∀ p, (words p).length ≤ n) :
    (forPhases words).length ≤ n := by
  by_cases hex : ∃ p, c p
  · obtain ⟨p, hp⟩ := hex
    rw [forPhases_of_unique (fun q hq => hone q p hq hp) hnil]
    exact hlen p
  · rw [forPhases_of_unique (p := .a) (fun q hq => absurd ⟨q, hq⟩ hex) hnil]
    exact hlen .a

theorem disableWords_eq_nil {a b : DriveState} (h : a ≠ .drivenHigh) (p : Phase) : disableWords a b p = [] :=
  if_neg fun hab => h hab.1

theorem releaseWords_eq_nil {a b : DriveState} (h : ¬b.isFloat = true) (p : Phase) : releaseWords a b p = [] :=
  if_neg fun hab => h hab.1

theorem lowWords_eq_nil {a b : DriveState} (h : b ≠ .drivenLow) (p : Phase) : lowWords a b p = [] :=
  if_neg fun hab => h hab.1

theorem highWords_eq_nil {duty : Word} {a b : DriveState} (h : b ≠ .drivenHigh) (p : Phase) :
    highWords duty a b p = [] :=
  if_neg fun hab => h hab.1

section SwitchLength
variable (duty : Word) {prev next : PerPhase DriveState}

theorem switchWords_length :
    (switchWords duty prev next).length =
      (forPhases fun p => disableWords (prev.get p) (next.get p) p).length +
      (forPhases fun p => releaseWords (prev.get p) (next.get p) p).length +
      (forPhases fun p => lowWords (prev.get p) (next.get p) p).length +
      (forPhases fun p => highWords duty (prev.get p) (next.get p) p).length := by
  simp only [switchWords, List.length_append]

/-- Each step has words for one phase at most: one, one, two and two. -/
theorem switchWords_length_le (hprev : prev.legal = true) (hnext : next.legal = true) :
    (switchWords duty prev next).length ≤ 6 := by
  have hdisable : (forPhases fun p => disableWords (prev.get p) (next.get p) p).length ≤ 1 :=
    length_forPhases_le (fun _ _ => PerPhase.eq_of_drivenHigh hprev) (fun p hp => disableWords_eq_nil hp p)
      fun p => by unfold disableWords; split <;> simp
  have hrelease : (forPhases fun p => releaseWords (prev.get p) (next.get p) p).length ≤ 1 :=
    length_forPhases_le (fun _ _ => PerPhase.eq_of_isFloat hnext) (fun p hp => releaseWords_eq_nil hp p)
      fun p => by unfold releaseWords; split <;> simp
  have hlow : (forPhases fun p => lowWords (prev.get p) (next.get p) p).length ≤ 2 :=
    length_forPhases_le (fun _ _ => PerPhase.eq_of_drivenLow hnext) (fun p hp => lowWords_eq_nil hp p)
      fun p => by unfold lowWords; split <;> simp
  have hhigh : (forPhases fun p => highWords duty (prev.get p) (next.get p) p).length ≤ 2 :=
    length_forPhases_le (fun _ _ => PerPhase.eq_of_drivenHigh hnext) (fun p hp => highWords_eq_nil hp p)
      fun p => by unfold highWords; split <;> simp
  rw [switchWords_length]
  omega

theorem everyPhase_get {α : Type} (x : α) (p : Phase) : (everyPhase x).get p = x := by cases p <;> rfl

/-- From `NONE` no phase loses its PWM, and the three phases of the row have one, two and two words. -/
theorem switchWords_none_length (hnext : next.legal = true) :
    (switchWords duty (everyPhase .off) next).length = 5 := by
  obtain ⟨x, y, z, hx, hy, hz⟩ := PerPhase.exists_of_legal hnext
  have hdisable : (forPhases fun p => disableWords .off (next.get p) p) = [] :=
    forPhases_of_unique (p := .a) (c := fun _ => False) (fun _ => False.elim)
      fun p _ => disableWords_eq_nil (a := .off) nofun p
  have hrelease : (forPhases fun p => releaseWords .off (next.get p) p) = releaseWords .off (next.get z) z :=
    forPhases_of_unique (fun q hq => PerPhase.eq_of_isFloat hnext hq hz) fun p hp => releaseWords_eq_nil hp p
  have hlow : (forPhases fun p => lowWords .off (next.get p) p) = lowWords .off (next.get y) y :=
    forPhases_of_unique (fun q hq => PerPhase.eq_of_drivenLow hnext hq hy) fun p hp => lowWords_eq_nil hp p
  have hhigh : (forPhases fun p => highWords duty .off (next.get p) p) = highWords duty .off (next.get x) x :=
    forPhases_of_unique (fun q hq => PerPhase.eq_of_drivenHigh hnext hq hx) fun p hp => highWords_eq_nil hp p
  simp only [switchWords_length, everyPhase_get, hdisable, hrelease, hlow, hhigh, hx, hy]
  simp [releaseWords, lowWords, highWords, hz, show DriveState.off.isFloat = false from rfl]

end SwitchLength

theorem State.prevRow_cases (s : State) : (∃ n, s.prevRow = s.cfg.pt.row n) ∨ s.prevRow = everyPhase .off := by
  unfold prevRow
  split
  · next n _ => exact .inl ⟨n, rfl⟩
  · exact .inr rfl

/-- A running `TICK`: the master switch and at most six words of the switch. -/
theorem State.runWords_length_le {s : State} (hlegal : s.cfg.legal = true) (idx : Fin 4) :
    (s.runWords idx).length ≤ 7 := by
  have hmaster : s.masterWords.length ≤ 1 := by unfold masterWords; split <;> simp
  have hsector : s.sectorWords.length ≤ 6 := by
    have hnext := Cfg.row_legal hlegal (nextSector s.sector)
    unfold sectorWords
    rcases s.prevRow_cases with ⟨n, hn⟩ | hn
    · rw [hn]
      exact switchWords_length_le _ (Cfg.row_legal hlegal n) hnext
    · rw [hn, switchWords_none_length _ hnext]
      omega
  unfold runWords
  split
  · rw [List.length_append]
    omega
  · rw [List.append_nil]
    omega

/-- Settles O39: a `TICK` in `Off` has the four words of the posture. -/
theorem switchEmitsFewWords : Obligations.SwitchEmitsFewWords := by
  intro s arg hlegal
  have hrow := Cfg.row_legal hlegal
  refine ⟨fun n m => switchWords_length_le _ (hrow n) (hrow m), fun m => switchWords_none_length _ (hrow m), ?_⟩
  by_cases hrun : s.running
  · refine ⟨_, exec_tick_of_running hrun arg, ?_⟩
    rw [(State.runTick_shadow_effects _ _ _).2]
    exact State.runWords_length_le (s := s.tickBegin) hlegal s.tickCounter
  · refine ⟨_, exec_tick_of_off (not_not.mp hrun) arg, ?_⟩
    rw [State.idlePath_eq]
    exact (by decide : idleWords.length ≤ 7)

/-- Settles O40, switch by switch: for given rows the conditions of the four steps are decided. -/
theorem switchListsUnderStandardTable : Obligations.SwitchListsUnderStandardTable := by
  intro d
  refine ⟨?_, ?_, ?_, ?_, ?_, ?_, ?_, ?_, ?_, ?_, ?_, ?_⟩ <;> rfl

/-! ## Effect words and shadows -/

/-- Settles O41: each word is emitted into an empty list, and `Shadow.apply` is what it writes. -/
theorem effectWordsWriteTheirShadow : Obligations.EffectWordsWriteTheirShadow :=
  fun _ _ _ _ => ⟨rfl, rfl, rfl, rfl, rfl, rfl⟩

theorem armTimer_not_mem_switchWords {t duty : Word} {prev next : PerPhase DriveState} :
    Effect.armTimer t ∉ switchWords duty prev next := by
  simp [switchWords, mem_forPhases]

theorem State.armTimer_not_mem_runWords (s : State) (idx : Fin 4) (t : Word) : Effect.armTimer t ∉ s.runWords idx := by
  have hmaster : Effect.armTimer t ∉ s.masterWords := by unfold masterWords; split <;> simp
  unfold runWords
  split
  · simp [hmaster, sectorWords, armTimer_not_mem_switchWords]
  · simp [hmaster]

theorem Leaves.shadow_eq {i : Instr} {s t : State} (h : Leaves i s t) : t.shadow = s.shadow.applyAll t.effects := by
  cases h with
  | idleTick => rw [State.idlePath_eq]; rfl
  | runTick arg =>
    obtain ⟨hshadow, heffects⟩ := s.tickBegin.runTick_shadow_effects s.tickCounter (s.cfg.rawSample arg)
    rw [hshadow, heffects]
    rfl
  | update => simp
  | stop | request | manual | duty | answer | word => rfl

/-- Settles O42: of the nine shapes only `TICK`, `UPDATE` and an effect word have words, and the words of a `TICK` are
of other kinds than `ARM_TIMER`. -/
theorem shadowsFollowTheEmittedWords : Obligations.ShadowsFollowTheEmittedWords := by
  intro i s t h
  have hleaves := leaves_of_exec h
  refine ⟨hleaves.shadow_eq, fun hev hupd htick => ?_, fun hev period hmem => ?_⟩
  · cases hleaves with
    | idleTick arg hi | runTick arg hi => exact absurd hi (htick arg)
    | update hi => exact absurd hi hupd
    | word e hi => simp [hi] at hev
    | stop | request | manual | duty | answer => exact ⟨rfl, rfl⟩
  · cases hleaves with
    | idleTick =>
      rw [State.idlePath_eq] at hmem
      simp [State.tickBegin, idleWords] at hmem
    | runTick arg =>
      rw [(State.runTick_shadow_effects _ _ _).2] at hmem
      exact absurd hmem (s.tickBegin.armTimer_not_mem_runWords _ _)
    | update hi => exact hi
    | word e hi => simp [hi] at hev
    | stop | request | manual | duty | answer => cases hmem

end Machine
end Sys2Proof
end

section
/-!
PROOF of R154 and R155. One phase's outputs follow its drive state: `Shadow.follows` says it phase by phase, with
`NONE` as the row of phases `Off`. A switch takes outputs that follow the row found to outputs that follow the next
row. Inside its list, up to the end of step 4 only a phase that was driven high can be powered, and from there on only
a phase the next row drives high; a legal row has one of each at most.
-/

namespace Sys2Proof.Machine

/-! ## One phase's outputs and its drive state -/

/-- The outputs of a phase are those of a drive state; `Off` and the floating states are released alike (R154(a)). -/
def Shadow.follows (h : Shadow) (p : Phase) : DriveState → Prop
  | .drivenHigh => h.outMode.get p = .pwm ∧ h.hbEn.get p = true
  | .drivenLow => h.outMode.get p = .low ∧ h.hbEn.get p = true
  | .off | .floatRising | .floatFalling => h.hbEn.get p = false

theorem Shadow.follows_congr {h g : Shadow} {p : Phase} (hg : h.outputs p = g.outputs p) {d : DriveState}
    (hd : h.follows p d) : g.follows p d := by
  obtain ⟨hmode, -, hhb⟩ : h.outMode.get p = g.outMode.get p ∧ h.pwmDuty.get p = g.pwmDuty.get p ∧
    h.hbEn.get p = g.hbEn.get p := by simpa [outputs] using hg
  cases d <;> simpa only [follows, ← hmode, ← hhb] using hd

theorem Shadow.follows_of_isFloat {h : Shadow} {p : Phase} {d : DriveState} (hd : d.isFloat = true) :
    h.follows p d ↔ h.hbEn.get p = false := by
  cases d with
  | off | drivenHigh | drivenLow => cases hd
  | floatRising | floatFalling => exact Iff.rfl

theorem Shadow.configuredFor_of_follows {h : Shadow} {row : PerPhase DriveState}
    (hrow : ∀ p, h.follows p (row.get p)) : h.configuredFor row := by
  intro p
  have hp := hrow p
  refine ⟨fun hhigh => ?_, fun hlow => ?_, fun hfloat => (follows_of_isFloat hfloat).mp hp⟩
  · rwa [hhigh] at hp
  · rwa [hlow] at hp

theorem Shadow.follows_of_configuredFor {h : Shadow} {row : PerPhase DriveState} (hrow : h.configuredFor row)
    {p : Phase} (hoff : row.get p ≠ .off) : h.follows p (row.get p) := by
  obtain ⟨hhigh, hlow, hfloat⟩ := hrow p
  cases hd : row.get p with
  | off => exact absurd hd hoff
  | drivenHigh => exact hhigh hd
  | drivenLow => exact hlow hd
  | floatRising | floatFalling => exact hfloat (by rw [hd]; rfl)

theorem Shadow.eq_drivenHigh_of_poweredHigh {h : Shadow} {p : Phase} {d : DriveState} (hd : h.follows p d)
    (hp : h.poweredHigh p = true) : d = .drivenHigh := by
  cases d <;> simp_all [follows, poweredHigh]

theorem Shadow.eq_drivenLow_of_drivesLow {h : Shadow} {p : Phase} {d : DriveState} (hd : h.follows p d)
    (hp : h.drivesLow p = true) : d = .drivenLow := by
  cases d <;> simp_all [follows, drivesLow]

/-! ## A switch -/

theorem phaseWords_float_float {a b : DriveState} (ha : a.isFloat = true) (hb : b.isFloat = true) (duty : Word)
    (p : Phase) : phaseWords duty a b p = [] := by
  cases a <;> cases ha <;> cases b <;> cases hb <;> rfl

theorem phaseWords_newly_float {a b : DriveState} (ha : a.isFloat = false) (hb : b.isFloat = true) (duty : Word)
    (p : Phase) : phaseWords duty a b p = disableWords a b p ++ [.hbEnable p false] := by
  cases a <;> cases ha <;> cases b <;> cases hb <;> rfl

theorem Shadow.switch_float_hbEn {h : Shadow} (duty : Word) {prev next : PerPhase DriveState} {p : Phase}
    (hprev : h.follows p (prev.get p)) (hnext : (next.get p).isFloat = true) :
    (h.applyAll (switchWords duty prev next)).hbEn.get p = false := by
  have houtputs := h.applyAll_switchWords_outputs duty prev next p
  cases hfloat : (prev.get p).isFloat with
  | true =>
    rw [phaseWords_float_float hfloat hnext, applyAll_nil] at houtputs
    exact (congrArg (·.2.2) houtputs).trans ((follows_of_isFloat hfloat).mp hprev)
  | false =>
    rw [phaseWords_newly_float hfloat hnext, applyAll_append] at houtputs
    refine (congrArg (·.2.2) houtputs).trans ?_
    simp [outputs, apply]

/-- R154(a), phase by phase. -/
theorem Shadow.follows_switch {h : Shadow} (duty : Word) {prev next : PerPhase DriveState} {p : Phase}
    (hprev : h.follows p (prev.get p)) (hoff : next.get p ≠ .off) :
    (h.applyAll (switchWords duty prev next)).follows p (next.get p) := by
  by_cases hsame : prev.get p = next.get p
  · exact follows_congr (h.switch_keeps_outputs duty hsame).symm (hsame ▸ hprev)
  · cases hnext : next.get p with
    | off => exact absurd hnext hoff
    | drivenHigh =>
      have houtputs := h.switch_newly_high_outputs duty (fun hp => hsame (hp.trans hnext.symm)) hnext
      exact ⟨congrArg (·.1) houtputs, congrArg (·.2.2) houtputs⟩
    | drivenLow =>
      have houtputs := h.switch_newly_low_outputs duty (fun hp => hsame (hp.trans hnext.symm)) hnext
      exact ⟨congrArg (·.1) houtputs, congrArg (·.2.2) houtputs⟩
    | floatRising | floatFalling => exact switch_float_hbEn duty hprev (by rw [hnext]; rfl)

/-- The switch leaves the master switch alone (R142). -/
theorem Shadow.applyAll_masterEn {es : List Effect} (hes : ∀ on, Effect.masterEnable on ∉ es) (h : Shadow) :
    (h.applyAll es).masterEn = h.masterEn := by
  induction es generalizing h with
  | nil => rfl
  | cons e es ih =>
    simp only [List.mem_cons, not_or] at hes
    rw [applyAll_cons, ih fun on => (hes on).2]
    cases e with
    | masterEnable on => exact absurd rfl (hes on).1
    | pwmEnable | pwmDisable | outputLow | hbEnable | armTimer => rfl

theorem masterEnable_not_mem_switchWords {duty : Word} {prev next : PerPhase DriveState} (on : Bool) :
    Effect.masterEnable on ∉ switchWords duty prev next := by
  simp [switchWords, mem_forPhases]

/-! ## The outputs agree with PrevSector -/

theorem PerPhase.get_ne_off_of_legal {t : PerPhase DriveState} (h : t.legal = true) (p : Phase) :
    t.get p ≠ .off := by
  simp only [PerPhase.legal, PerPhase.noneOff, PerPhase.count, Bool.and_eq_true, beq_iff_eq] at h
  cases p <;> intro hp <;> simp_all [PerPhase.get]

theorem State.prevRow_of_some {s : State} {n : Fin 6} (h : s.prevSector = some n) : s.prevRow = s.cfg.pt.row n := by
  simp only [prevRow, h]

theorem State.prevRow_of_none {s : State} (h : s.prevSector = none) : s.prevRow = everyPhase .off := by
  simp only [prevRow, h]

theorem State.OutputsMatch.follows {s : State} (hm : s.OutputsMatch) (hlegal : s.cfg.legal = true) (p : Phase) :
    s.shadow.follows p (s.prevRow.get p) := by
  cases hprev : s.prevSector with
  | none =>
    rw [State.prevRow_of_none hprev, everyPhase_get]
    exact hm.released hprev p
  | some n =>
    rw [State.prevRow_of_some hprev]
    exact Shadow.follows_of_configuredFor (hm.configured n hprev).1
      (PerPhase.get_ne_off_of_legal (Cfg.row_legal hlegal n) p)

/-- A legal row, or none, drives one phase high at most; and so for low. -/
theorem State.prevRow_unique {s : State} (hlegal : s.cfg.legal = true) {p q : Phase} :
    (s.prevRow.get p = .drivenHigh → s.prevRow.get q = .drivenHigh → p = q) ∧
      (s.prevRow.get p = .drivenLow → s.prevRow.get q = .drivenLow → p = q) := by
  rcases s.prevRow_cases with ⟨n, hn⟩ | hn
  · rw [hn]
    exact ⟨PerPhase.eq_of_drivenHigh (Cfg.row_legal hlegal n), PerPhase.eq_of_drivenLow (Cfg.row_legal hlegal n)⟩
  · rw [hn, everyPhase_get, everyPhase_get]
    exact ⟨nofun, nofun⟩

/-- Only the sector configured, the modes, the enables, the master switch and the line count. -/
theorem State.OutputsMatch.of_eq {s t : State} (hm : s.OutputsMatch) (hcfg : t.cfg = s.cfg)
    (hprev : t.prevSector = s.prevSector) (hmode : t.shadow.outMode = s.shadow.outMode)
    (hhb : t.shadow.hbEn = s.shadow.hbEn) (hmaster : t.shadow.masterEn = s.shadow.masterEn)
    (hline : t.ports.effectLine = none) : t.OutputsMatch where
  configured n hn := by
    obtain ⟨hrow, hon⟩ := hm.configured n (hprev ▸ hn)
    rw [Shadow.configuredFor, hmode, hhb, hmaster, hcfg]
    exact ⟨hrow, hon⟩
  released hn p := by
    rw [hhb]
    exact hm.released (hprev ▸ hn) p
  noLine := hline

/-- The running `TICK`: before the fourth slot the master switch alone, at the fourth slot a switch (R165, R166). -/
theorem State.OutputsMatch.runTick {s : State} (hm : s.OutputsMatch) (hlegal : s.cfg.legal = true) (idx : Fin 4)
    (raw : Word) : (s.runTick idx raw).OutputsMatch := by
  by_cases hidx : idx = 3
  · subst hidx
    have hshadow : (s.runTick 3 raw).shadow = { s.shadow with masterEn := true }.applyAll s.sectorWords := by
      rw [(State.runTick_shadow_effects ..).1, State.runWords, if_pos rfl, Shadow.applyAll_append,
        Shadow.applyAll_masterWords]
    have hrow : (s.runTick 3 raw).shadow.configuredFor (s.cfg.pt.row (nextSector s.sector)) := by
      rw [hshadow]
      refine Shadow.configuredFor_of_follows fun p => Shadow.follows_switch s.duty ?_
        (PerPhase.get_ne_off_of_legal (Cfg.row_legal hlegal _) p)
      exact Shadow.follows_congr (h := s.shadow) rfl (hm.follows hlegal p)
    have hmaster : (s.runTick 3 raw).shadow.masterEn = true := by
      rw [hshadow]
      exact Shadow.applyAll_masterEn masterEnable_not_mem_switchWords _
    rw [State.runTick_three] at hrow hmaster ⊢
    refine ⟨fun n hn => ?_, nofun, hm.noLine⟩
    cases hn
    exact ⟨hrow, hmaster⟩
  · rw [State.runTick_of_ne_three hidx, State.runWords, if_neg hidx, List.append_nil, Shadow.applyAll_masterWords]
    exact ⟨fun n hn => ⟨(hm.configured n hn).1, rfl⟩, hm.released, hm.noLine⟩

theorem Leaves.outputsMatch {i : Instr} {s t : State} (h : Leaves i s t) (hlegal : s.cfg.legal = true)
    (hev : i.isEvent = true) (hm : s.OutputsMatch) : t.OutputsMatch := by
  have hbegin : s.tickBegin.OutputsMatch := hm.of_eq rfl rfl rfl rfl rfl hm.noLine
  cases h with
  | idleTick =>
    rw [State.idlePath_eq]
    exact ⟨nofun, fun _ => everyPhase_get false, hm.noLine⟩
  | runTick => exact hbegin.runTick hlegal _ _
  | update =>
    rw [State.updateBranch_frame]
    exact hm.of_eq rfl rfl rfl rfl rfl hm.noLine
  | word e hi => simp [hi] at hev
  | stop | request | manual | duty | answer => exact hm.of_eq rfl rfl rfl rfl rfl hm.noLine

/-- Settles O44: from reset no sector is configured and every enable is 0. -/
theorem outputsMatchAtReset : Obligations.OutputsMatchAtReset := by
  refine fun c => ⟨⟨nofun, fun _ p => everyPhase_get false p, rfl⟩, fun p => ?_, rfl, rfl⟩
  rw [State.resetWith, everyPhase_get]
  nofun

theorem decodeEvent_isEvent (w : EventWord) : (decodeEvent w).isEvent = true := by
  unfold decodeEvent
  split <;> rfl

/-- The arbiter grants operations only. -/
theorem Ports.arbitrate_isEvent {p q : Ports} {i : Instr} (h : p.arbitrate = some (i, q)) : i.isEvent = true := by
  unfold arbitrate at h
  split at h
  · cases h
    rfl
  · cases h
    rfl
  · cases h
    exact decodeEvent_isEvent _
  · cases h

/-- Settles O43: with no effect word waiting a step runs an operation, resets, or waits. -/
theorem stepKeepsOutputsMatched : Obligations.StepKeepsOutputsMatched := by
  intro s t hm h
  rcases step_cases h with ⟨i, s', hfetch, hexec⟩ | hfetch
  · obtain ⟨hlegal, hs', ⟨w, e, hline, -⟩ | ⟨-, -, hreq⟩⟩ := State.fetch_run hfetch
    · rw [hm.noLine] at hline
      cases hline
    · have hline : s'.ports.effectLine = none := by
        rw [Ports.arbitrate_effectLine hreq, Ports.arrive_effectLine, hm.noLine]
      refine (leaves_of_exec hexec).outputsMatch ?_ (Ports.arbitrate_isEvent hreq) ?_
      · rw [hs']
        exact hlegal
      · rw [hs'] at hline ⊢
        exact hm.of_eq rfl rfl rfl rfl rfl hline
  · obtain ⟨-, hline, ⟨-, rfl⟩ | ⟨-, -, rfl⟩⟩ := State.fetch_settled hfetch
    · obtain ⟨hreset, -⟩ := outputsMatchAtReset s.cfg
      exact hreset.of_eq rfl rfl rfl rfl rfl rfl
    · exact hm.of_eq rfl rfl rfl rfl rfl (by simp [State.wait, hline])

/-- Outputs of a legal row with the master switch on: each class has its phase (R154(a), R155). -/
theorem Shadow.one_phase_in_each_class {h : Shadow} {row : PerPhase DriveState} (hlegal : row.legal = true)
    (hrow : h.configuredFor row) (hmaster : h.masterEn = true) :
    ∃ x y z : Phase, x ≠ y ∧ y ≠ z ∧ x ≠ z ∧
      h.drivesHigh x = true ∧ h.drivesLow y = true ∧ h.nonConducting z = true ∧
      row.get x = .drivenHigh ∧ row.get y = .drivenLow := by
  obtain ⟨x, y, z, hx, hy, hz⟩ := PerPhase.exists_of_legal hlegal
  obtain ⟨hmodeX, hhbX⟩ := (hrow x).1 hx
  obtain ⟨hmodeY, hhbY⟩ := (hrow y).2.1 hy
  have hhbZ := (hrow z).2.2 hz
  have hxy : x ≠ y := by
    rintro rfl
    cases hx.symm.trans hy
  have hyz : y ≠ z := by
    rintro rfl
    rw [hy] at hz
    cases hz
  have hxz : x ≠ z := by
    rintro rfl
    rw [hx] at hz
    cases hz
  exact ⟨x, y, z, hxy, hyz, hxz, by simp [drivesHigh, poweredHigh, hmaster, hmodeX, hhbX],
    by simp [drivesLow, hmodeY, hhbY], by simp [nonConducting, hhbZ], hx, hy⟩

/-- Settles O46: the switch leaves the outputs matched, with the new sector as the one configured. -/
theorem switchDrivesOneHighOneLow : Obligations.SwitchDrivesOneHighOneLow := by
  intro s arg hlegal hm hrun hidx
  obtain ⟨hadvance, -, -⟩ := sectorAdvancesModSix
  obtain ⟨t, ht, -, hprev, -⟩ := hadvance s arg hrun hidx
  obtain ⟨hrow, hmaster⟩ := ((leaves_of_exec ht).outputsMatch hlegal rfl hm).configured _ hprev
  rw [exec_cfg ht] at hrow
  exact ⟨t, ht, hrow, Shadow.one_phase_in_each_class (Cfg.row_legal hlegal _) hrow hmaster⟩

/-! ## Inside an effect list -/

theorem Shadow.poweredHigh_congr {h g : Shadow} {p : Phase} (hg : h.outputs p = g.outputs p) :
    h.poweredHigh p = g.poweredHigh p := by
  have hmode : h.outMode.get p = g.outMode.get p := congrArg (·.1) hg
  have hhb : h.hbEn.get p = g.hbEn.get p := congrArg (·.2.2) hg
  rw [poweredHigh, poweredHigh, hmode, hhb]

/-- Words that release a half-bridge, or name no phase, power none. -/
theorem Shadow.poweredHigh_of_release {es : List Effect} {p : Phase}
    (hes : ∀ e ∈ es, e.phase = none ∨ ∃ r, e = .hbEnable r false) {h : Shadow}
    (hp : (h.applyAll es).poweredHigh p = true) : h.poweredHigh p = true := by
  induction es generalizing h with
  | nil => exact hp
  | cons e es ih =>
    rw [List.forall_mem_cons] at hes
    obtain ⟨he, hes⟩ := hes
    have hstep : (h.apply e).poweredHigh p = true := ih hes hp
    rcases he with hnone | ⟨r, rfl⟩
    · rwa [poweredHigh_congr (apply_outputs_of_ne (by rw [hnone]; nofun) h)] at hstep
    · simp only [poweredHigh, apply, PerPhase.get_set, Bool.and_eq_true] at hstep ⊢
      obtain ⟨hmode, hhb⟩ := hstep
      refine ⟨hmode, ?_⟩
      split at hhb
      · cases hhb
      · exact hhb

theorem Shadow.applyAll_wordsNaming (h : Shadow) (es : List Effect) (p : Phase) :
    (h.applyAll es).outputs p = (h.applyAll (wordsNaming p es)).outputs p := applyAll_outputs es rfl

/-- Steps 2 to 4 of a switch (R143, R144, R153). -/
def lowSideWords (prev next : PerPhase DriveState) : List Effect :=
  forPhases (fun p => disableWords (prev.get p) (next.get p) p) ++
  forPhases (fun p => releaseWords (prev.get p) (next.get p) p) ++
  forPhases (fun p => lowWords (prev.get p) (next.get p) p)

/-- Step 5 (R145). -/
def highSideWords (duty : Word) (prev next : PerPhase DriveState) : List Effect :=
  forPhases fun p => highWords duty (prev.get p) (next.get p) p

theorem switchWords_eq_append (duty : Word) (prev next : PerPhase DriveState) :
    switchWords duty prev next = lowSideWords prev next ++ highSideWords duty prev next := rfl

theorem wordsNaming_lowSideWords (prev next : PerPhase DriveState) (p : Phase) :
    wordsNaming p (lowSideWords prev next) =
      disableWords (prev.get p) (next.get p) p ++ releaseWords (prev.get p) (next.get p) p ++
        lowWords (prev.get p) (next.get p) p := by
  simp only [lowSideWords, wordsNaming_append]
  rw [wordsNaming_forPhases, wordsNaming_forPhases, wordsNaming_forPhases] <;> intro r e he
  · obtain ⟨-, rfl | rfl⟩ := mem_lowWords.mp he <;> rfl
  · obtain ⟨-, rfl⟩ := mem_releaseWords.mp he
    rfl
  · obtain ⟨-, rfl⟩ := mem_disableWords.mp he
    rfl

theorem wordsNaming_highSideWords (duty : Word) (prev next : PerPhase DriveState) (p : Phase) :
    wordsNaming p (highSideWords duty prev next) = highWords duty (prev.get p) (next.get p) p := by
  refine wordsNaming_forPhases (fun r e he => ?_) p
  obtain ⟨-, rfl | rfl⟩ := mem_highWords.mp he <;> rfl

/-- Up to the end of step 4 a powered phase is one that was driven high: any other is at most released, or made low
before it is enabled. -/
theorem Shadow.prev_drivenHigh_of_poweredHigh {h : Shadow} {prev next : PerPhase DriveState} {l : List Effect}
    (hl : l <+: lowSideWords prev next) {p : Phase} (hprev : h.follows p (prev.get p))
    (hp : (h.applyAll l).poweredHigh p = true) : prev.get p = .drivenHigh := by
  by_contra hne
  have hnot (hp' : h.poweredHigh p = true) : False := hne (eq_drivenHigh_of_poweredHigh hprev hp')
  rw [poweredHigh_congr (applyAll_wordsNaming h l p)] at hp
  have hw : wordsNaming p l <+: wordsNaming p (lowSideWords prev next) := hl.filter _
  rw [wordsNaming_lowSideWords, disableWords_eq_nil hne, List.nil_append] at hw
  by_cases hfloat : (next.get p).isFloat = true
  · have hnolow : next.get p ≠ .drivenLow := by
      intro hlow
      rw [hlow] at hfloat
      cases hfloat
    rw [lowWords_eq_nil hnolow, List.append_nil] at hw
    exact hnot (poweredHigh_of_release (fun e he => .inr ⟨p, (mem_releaseWords.mp (hw.subset he)).2⟩) hp)
  · rw [releaseWords_eq_nil hfloat, List.nil_append, lowWords] at hw
    split at hw
    · rcases List.prefix_cons_iff.mp hw with hnil | ⟨u, hu, htail⟩
      · rw [hnil] at hp
        exact hnot hp
      · rw [hu] at hp
        rcases List.prefix_cons_iff.mp htail with hnil | ⟨v, hv, hnil⟩
        · simp [hnil, apply, poweredHigh] at hp
        · simp [hv, List.prefix_nil.mp hnil, apply, poweredHigh] at hp
    · rw [List.prefix_nil.mp hw] at hp
      exact hnot hp

/-- From the end of step 4 on a powered phase is one the next row drives high: any other has all its words behind it. -/
theorem Shadow.next_drivenHigh_of_poweredHigh {h : Shadow} {duty : Word} {prev next : PerPhase DriveState}
    {l : List Effect} (hl : l <+: highSideWords duty prev next) {p : Phase} (hprev : h.follows p (prev.get p))
    (hoff : next.get p ≠ .off) (hp : (h.applyAll (lowSideWords prev next ++ l)).poweredHigh p = true) :
    next.get p = .drivenHigh := by
  by_contra hne
  have hw : wordsNaming p l <+: wordsNaming p (highSideWords duty prev next) := hl.filter _
  rw [wordsNaming_highSideWords, highWords_eq_nil hne, List.prefix_nil] at hw
  have hsame : wordsNaming p (lowSideWords prev next ++ l) = wordsNaming p (switchWords duty prev next) := by
    rw [switchWords_eq_append, wordsNaming_append, wordsNaming_append, hw, wordsNaming_highSideWords,
      highWords_eq_nil hne]
  rw [poweredHigh_congr (applyAll_wordsNaming h _ p), hsame,
    ← poweredHigh_congr (applyAll_wordsNaming h _ p)] at hp
  exact hne (eq_drivenHigh_of_poweredHigh (follows_switch duty hprev hoff) hp)

/-- A list that begins an appended list ends in the first part or in the second. -/
theorem prefix_append_cases {α : Type} {l es fs : List α} (h : l <+: es ++ fs) :
    l <+: es ∨ ∃ k, l = es ++ k ∧ k <+: fs := by
  rcases List.prefix_or_prefix_of_prefix h (List.prefix_append es fs) with hes | ⟨k, rfl⟩
  · exact .inl hes
  · exact .inr ⟨k, rfl, (List.prefix_append_right_inj es).mp h⟩

/-- R154(b) for one switch, at every point inside its list. -/
theorem Shadow.oneHighAtMost_switch {h : Shadow} {duty : Word} {prev next : PerPhase DriveState} {l : List Effect}
    (hl : l <+: switchWords duty prev next) (hprev : ∀ p, h.follows p (prev.get p))
    (hone : ∀ p q, prev.get p = .drivenHigh → prev.get q = .drivenHigh → p = q) (hnext : next.legal = true) :
    (h.applyAll l).oneHighAtMost := by
  intro p q hp hq
  rcases prefix_append_cases hl with hlow | ⟨k, rfl, hk⟩
  · exact hone p q (prev_drivenHigh_of_poweredHigh hlow (hprev p) hp)
      (prev_drivenHigh_of_poweredHigh hlow (hprev q) hq)
  · have hoff := PerPhase.get_ne_off_of_legal hnext
    exact PerPhase.eq_of_drivenHigh hnext (next_drivenHigh_of_poweredHigh hk (hprev p) (hoff p) hp)
      (next_drivenHigh_of_poweredHigh hk (hprev q) (hoff q) hq)

theorem State.OutputsMatch.oneHighAtMost {s : State} (hm : s.OutputsMatch) (hlegal : s.cfg.legal = true) :
    s.shadow.oneHighAtMost := fun p q hp hq =>
  (State.prevRow_unique hlegal).1 (Shadow.eq_drivenHigh_of_poweredHigh (hm.follows hlegal p) hp)
    (Shadow.eq_drivenHigh_of_poweredHigh (hm.follows hlegal q) hq)

theorem State.OutputsMatch.oneLowAtMost {s : State} (hm : s.OutputsMatch) (hlegal : s.cfg.legal = true) :
    s.shadow.oneLowAtMost := fun p q hp hq =>
  (State.prevRow_unique hlegal).2 (Shadow.eq_drivenLow_of_drivesLow (hm.follows hlegal p) hp)
    (Shadow.eq_drivenLow_of_drivesLow (hm.follows hlegal q) hq)

/-- Words that power no phase keep the bound at every point. -/
theorem Shadow.oneHighAtMost_of_release {h : Shadow} {l es : List Effect} (hl : l <+: es)
    (hes : ∀ e ∈ es, e.phase = none ∨ ∃ r, e = .hbEnable r false) (hone : h.oneHighAtMost) :
    (h.applyAll l).oneHighAtMost := by
  have hmem : ∀ e ∈ l, e.phase = none ∨ ∃ r, e = .hbEnable r false := fun e he => hes e (hl.subset he)
  exact fun p q hp hq => hone p q (poweredHigh_of_release hmem hp) (poweredHigh_of_release hmem hq)

/-- The words of a running `TICK`: the master switch names no phase, and the rest is a switch. -/
theorem State.OutputsMatch.oneHighAtMost_runWords {s : State} (hm : s.OutputsMatch) (hlegal : s.cfg.legal = true)
    {idx : Fin 4} {l : List Effect} (hl : l <+: s.runWords idx) : (s.shadow.applyAll l).oneHighAtMost := by
  have hmaster : ∀ e ∈ s.masterWords, e.phase = none ∨ ∃ r, e = .hbEnable r false := by
    unfold State.masterWords
    split <;> simp [Effect.phase]
  rcases prefix_append_cases hl with hfirst | ⟨k, rfl, hk⟩
  · exact Shadow.oneHighAtMost_of_release hfirst hmaster (hm.oneHighAtMost hlegal)
  · rw [Shadow.applyAll_append, Shadow.applyAll_masterWords]
    split at hk
    · exact Shadow.oneHighAtMost_switch hk
        (fun p => Shadow.follows_congr (h := s.shadow) rfl (hm.follows hlegal p))
        (fun p q => (State.prevRow_unique hlegal).1) (Cfg.row_legal hlegal _)
    · rw [List.prefix_nil.mp hk]
      exact hm.oneHighAtMost hlegal

theorem Leaves.oneHighAtMost {i : Instr} {s t : State} (h : Leaves i s t) (hlegal : s.cfg.legal = true)
    (hev : i.isEvent = true) (hm : s.OutputsMatch) {l : List Effect} (hl : l <+: t.effects) :
    (s.shadow.applyAll l).oneHighAtMost := by
  have hone := hm.oneHighAtMost hlegal
  cases h with
  | idleTick =>
    rw [State.idlePath_eq] at hl
    refine Shadow.oneHighAtMost_of_release (es := idleWords) hl (fun e he => ?_) hone
    simp only [idleWords, List.mem_cons, List.not_mem_nil, or_false] at he
    rcases he with rfl | rfl | rfl | rfl
    · exact .inr ⟨_, rfl⟩
    · exact .inr ⟨_, rfl⟩
    · exact .inr ⟨_, rfl⟩
    · exact .inl rfl
  | runTick arg =>
    rw [(State.runTick_shadow_effects ..).2] at hl
    have hbegin : s.tickBegin.OutputsMatch := hm.of_eq rfl rfl rfl rfl rfl hm.noLine
    exact hbegin.oneHighAtMost_runWords hlegal hl
  | update =>
    rw [State.emit_effects, State.updateBranch_effects] at hl
    refine Shadow.oneHighAtMost_of_release hl (fun e he => .inl ?_) hone
    rw [List.mem_singleton.mp he]
    rfl
  | word e hi => simp [hi] at hev
  | stop | request | manual | duty | answer =>
    rw [List.prefix_nil.mp hl]
    exact hone

/-- Settles O45: inside the list by the words of each shape; before it and at its end by the outputs matched there. -/
theorem neverTwoPhasesHigh : Obligations.NeverTwoPhasesHigh := by
  intro i s t hlegal hm hev h
  have hleaves := leaves_of_exec h
  have hmt := hleaves.outputsMatch hlegal hev hm
  refine ⟨fun l => hleaves.oneHighAtMost hlegal hev hm, hm.oneLowAtMost hlegal, hmt.oneLowAtMost ?_⟩
  rw [exec_cfg h]
  exact hlegal

end Sys2Proof.Machine
end

section
/-!
PROOF of the invariants (R43, R104, R105) and of the ownership table (R222). Of the nine shapes of `Leaves`, the stop
procedure, a start, a period set by hand, a duty moved and an answer each write at most three of the registers an
invariant speaks of, so that what takes work is `UPDATE`, branch by branch, and the fourth slot of `TICK`.
-/

namespace Sys2Proof.Machine

/-! ## UPDATE -/

theorem State.bucketStep_bucket_le {s : State} (h : s.bucket.toNat ≤ s.cfg.bucketCapacity.toNat) :
    s.bucketStep.bucket.toNat ≤ s.cfg.bucketCapacity.toNat := by
  rcases lt_or_ge s.vsys.toNat s.cfg.vShutdownThreshold.toNat with hlow | hhigh
  · rw [bucketStep_bucket_of_lt hlow]
    omega
  · rw [bucketStep_bucket_of_le hhigh h]
    exact min_le_right _ _

theorem State.Inv.onStep {s : State} (h : s.Inv) : s.onStep.Inv := by
  have hbucket : s.onStep.bucket.toNat ≤ s.cfg.bucketCapacity.toNat := by
    rw [State.onStep_bucket]
    exact State.bucketStep_bucket_le (s := s.vsysAverage) h.bucket
  have hduty : s.onStep.duty.toNat ≤ s.cfg.dutyGuard.toNat := by
    rw [State.onStep_duty_of_faultFlag]
    split
    · exact Nat.zero_le _
    · exact h.duty.1
  have hvsys : s.onStep.vsys.toNat < 2 ^ s.cfg.adcW := by
    have hv := h.vsys
    have hb := h.vbatt
    rw [State.onStep_vsys, State.vsysAverage_vsys, mean_toNat]
    omega
  rw [State.onStep_frame]
  exact { h with bucket := hbucket, duty := ⟨hduty, h.duty.2⟩, vsys := hvsys }

theorem State.Inv.offStep {s : State} (h : s.Inv) : s.offStep.Inv := { h with bucket := le_rfl }

/-- The ramp step of a machine in which no start is pending (R104, R105). -/
theorem State.Inv.rampStep {s : State} (h : s.Inv) (hreq : s.startReq = false) : s.rampStep.Inv := by
  obtain ⟨-, -, hramp, hidle, -⟩ := Cfg.legal_bounds h.legal
  have hstart : s.startReq = true → RunState.on = .off := fun hr => by rw [hreq] at hr; cases hr
  rw [State.rampStep_eq]
  dsimp only
  split
  · exact { h with duty := ⟨hidle, h.duty.2⟩, startReq := hstart, vsys := h.vbatt }
  · exact { h with duty := ⟨hramp, h.duty.2⟩ }

theorem State.RampInv.rampStep {s : State} (hbucket : s.bucket = s.cfg.bucketCapacity) (hfault : s.faultFlag = false) :
    s.rampStep.RampInv := by
  rw [State.rampStep_eq]
  dsimp only
  split
  · exact nofun
  · next hlonger => exact fun _ => ⟨hbucket, hfault, not_le.mp hlonger⟩

theorem State.RampInv.of_ne {s : State} (h : s.runState ≠ .rampUp) : s.RampInv := fun hramp => absurd hramp h

theorem State.Inv.started {s : State} (h : s.Inv) : s.started.Inv := { h.offStep with startReq := nofun }

theorem State.Inv.updateBranch {s : State} (h : s.Inv) (hramp : s.RampInv) :
    s.updateBranch.Inv ∧ s.updateBranch.RampInv := by
  cases hr : s.runState with
  | off =>
    cases hreq : s.startReq with
    | false =>
      rw [State.updateBranch_of_idle hr hreq]
      exact ⟨h.offStep, State.RampInv.of_ne (s := s.offStep) (by rw [show s.offStep.runState = .off from hr]; nofun)⟩
    | true =>
      rw [State.updateBranch_of_start hr hreq]
      exact ⟨h.started.rampStep rfl, State.RampInv.rampStep (s := s.started) rfl rfl⟩
  | rampUp =>
    obtain ⟨hbucket, hfault, -⟩ := hramp hr
    have hreq : s.startReq = false := by
      by_contra hstart
      cases hr.symm.trans (h.startReq (by simpa using hstart))
    rw [State.updateBranch_of_rampUp hr]
    exact ⟨h.rampStep hreq, State.RampInv.rampStep hbucket hfault⟩
  | on =>
    have hon : s.onStep.runState = .on := by rw [State.onStep_frame, hr]
    rw [State.updateBranch_of_on hr]
    exact ⟨h.onStep, State.RampInv.of_ne (by rw [hon]; nofun)⟩

/-! ## TICK -/

theorem State.Inv.storeSample {s : State} (h : s.Inv) (idx : Fin 4) (arg : Word) :
    (s.work.set idx (s.cfg.delta (s.cfg.rawSample arg))).within s.cfg.adcW :=
  Slots.set_within h.work idx (Cfg.delta_toInt h.legal arg).2

theorem State.Inv.runTick {s : State} (h : s.Inv) (idx : Fin 4) (arg : Word) :
    (s.runTick idx (s.cfg.rawSample arg)).Inv := by
  obtain ⟨-, -, -, -, -, -, -, -, -, hw, -⟩ := Cfg.legal_bounds h.legal
  have hwork := h.storeSample idx arg
  by_cases hidx : idx = 3
  · subst hidx
    have hraw : (s.cfg.rawSample arg).toNat < 2 ^ s.cfg.adcW := by
      rw [rawSample_toNat hw]
      exact Nat.mod_lt _ (by positivity)
    have hsum := Slots.signedSum_toInt hw h.work
    rw [State.runTick_three]
    refine { h with prevSector := fun p hp => (Option.some.inj hp).symm, work := hwork, vbatt := ?_, qual := ?_,
                    zcIntegral := ?_ }
    · dsimp only
      split
      · exact hraw
      · exact h.vbatt
    · dsimp only
      split
      · exact hwork
      · exact h.qual
    · dsimp only
      split
      · exact hsum
      · exact h.zcIntegral
  · rw [State.runTick_of_ne_three hidx]
    exact { h with work := hwork }

/-! ## Every instruction, and every step -/

theorem Leaves.inv {i : Instr} {s t : State} (hleaves : Leaves i s t) (h : s.Inv) (hramp : s.RampInv) :
    t.Inv ∧ t.RampInv := by
  cases hleaves with
  | idleTick arg hi hoff =>
    rw [State.idlePath_eq]
    exact ⟨{ h with prevSector := nofun }, hramp⟩
  | runTick arg =>
    have hinv : s.tickBegin.Inv := { h with }
    refine ⟨hinv.runTick _ arg, ?_⟩
    rw [State.runTick_frame]
    exact hramp
  | update =>
    have hinv : s.begin.Inv := { h with }
    obtain ⟨hbranch, hbranchRamp⟩ := hinv.updateBranch hramp
    exact ⟨{ hbranch with }, hbranchRamp⟩
  | stop => exact ⟨{ h with startReq := fun _ => rfl }, nofun⟩
  | request hi hoff => exact ⟨{ h with startReq := fun _ => hoff }, hramp⟩
  | manual period hi hon => exact ⟨{ h with }, State.RampInv.of_ne (by rw [State.begin_runState, hon]; nofun)⟩
  | duty d hi hguard => exact ⟨{ h with duty := ⟨hguard h.duty.1, h.duty.2⟩ }, hramp⟩
  | answer | word => exact ⟨{ h with }, hramp⟩

/-- Settles O48: every register of R43 is 0 at reset, or the constant that bounds it. -/
theorem invariantsAtReset : Obligations.InvariantsAtReset := by
  intro c hlegal
  obtain ⟨-, -, -, -, hguard, -⟩ := Cfg.legal_bounds hlegal
  have hzero : Slots.within ⟨0, 0, 0, 0⟩ c.adcW := by
    have hpow : (1 : Int) ≤ 2 ^ c.adcW := one_le_pow₀ (by norm_num)
    intro i
    have hget : (Slots.get ⟨0, 0, 0, 0⟩ i).toInt = 0 := by fin_cases i <;> rfl
    omega
  have hpos : 0 < 2 ^ c.adcW := by positivity
  exact ⟨⟨hlegal, nofun, le_rfl, ⟨Nat.zero_le _, hguard⟩, nofun, hpos, hpos, hzero, hzero, rfl⟩, nofun⟩

/-- Settles O47: what a step runs keeps them from any ports, a reset establishes them, and a wait writes no register. -/
theorem stepKeepsInvariants : Obligations.StepKeepsInvariants := by
  intro s t h hramp hstep
  rcases step_cases hstep with ⟨i, s', hfetch, hexec⟩ | hfetch
  · obtain ⟨-, hs', -⟩ := State.fetch_run hfetch
    refine (leaves_of_exec hexec).inv ?_ ?_ <;> rw [hs']
    · exact { h with }
    · exact hramp
  · obtain ⟨-, -, ⟨-, rfl⟩ | ⟨-, -, rfl⟩⟩ := State.fetch_settled hfetch
    · obtain ⟨hreset, hresetRamp⟩ := invariantsAtReset s.cfg h.legal
      exact ⟨{ hreset with }, hresetRamp⟩
    · exact ⟨{ h with }, hramp⟩

/-! ## The ownership table -/

/-- No word of a `TICK` is `ARM_TIMER`, so the timer's shadow stands. -/
theorem Shadow.applyAll_timerPeriod {es : List Effect} (hes : ∀ t, Effect.armTimer t ∉ es) (h : Shadow) :
    (h.applyAll es).timerPeriod = h.timerPeriod := by
  induction es generalizing h with
  | nil => rfl
  | cons e es ih =>
    simp only [List.mem_cons, not_or] at hes
    rw [applyAll_cons, ih fun t => (hes t).2]
    cases e with
    | armTimer t => exact absurd rfl (hes t).1
    | pwmEnable | pwmDisable | outputLow | hbEnable | masterEnable => rfl

@[simp] theorem State.runTick_timerPeriod (s : State) (idx : Fin 4) (raw : Word) :
    (s.runTick idx raw).shadow.timerPeriod = s.shadow.timerPeriod := by
  rw [(runTick_shadow_effects ..).1, Shadow.applyAll_timerPeriod (s.armTimer_not_mem_runWords idx)]

theorem Instr.eq_of_stops {c : Cfg} {i : Instr} (h : i.stops c = true) : i = .stop ∨ ∃ v, i = .setCmdDuty v := by
  cases i with
  | stop => exact .inl rfl
  | setCmdDuty v => exact .inr ⟨v, rfl⟩
  | _ => cases h

/-- Settles O49: each shape of `Leaves` writes the registers of its own row of the table, and says which operations have
that shape. -/
theorem registersHaveTheirWriters : Obligations.RegistersHaveTheirWriters := by
  intro i s t hev h
  cases leaves_of_exec h with
  | idleTick arg hi =>
    rw [State.idlePath_eq]
    refine ⟨fun htick => absurd hi (htick arg), ?_⟩
    simp [State.tickBegin]
  | runTick arg hi =>
    have htimer := s.tickBegin.runTick_timerPeriod s.tickCounter (s.cfg.rawSample arg)
    rw [State.runTick_frame]
    refine ⟨fun htick => absurd hi (htick arg), fun _ => ⟨rfl, rfl, rfl, htimer⟩, ?_⟩
    simp [State.tickBegin]
  | update hi =>
    refine ⟨fun _ => ?_, ?_⟩
    · rw [State.updateBranch_frame]
      exact ⟨rfl, rfl, rfl, rfl, rfl, rfl, rfl, rfl, rfl, rfl, rfl⟩
    · simp [hi]
  | stop hi =>
    refine ⟨by simp, by simp, fun _ hno => by simp [hi] at hno, by simp, by simp, fun _ _ hstop _ hset => ?_⟩
    rcases Instr.eq_of_stops hi with rfl | ⟨v, rfl⟩
    · exact absurd rfl hstop
    · exact absurd rfl (hset v)
  | request hi =>
    refine ⟨by simp, by simp, by simp, by simp, by simp, fun _ hstart _ hinc hset => ?_⟩
    rcases hi with rfl | rfl | ⟨v, rfl⟩
    · exact absurd rfl hstart
    · exact absurd rfl hinc
    · exact absurd rfl (hset v)
  | manual period hi =>
    refine ⟨by simp, by simp, by simp, by simp, fun _ hinc hdec => ?_, by simp⟩
    rcases hi with rfl | rfl
    · exact absurd rfl hinc
    · exact absurd rfl hdec
  | duty d hi =>
    refine ⟨by simp, by simp, by simp, fun _ hinc hdec hset => ?_, by simp, by simp⟩
    rcases hi with rfl | rfl | ⟨v, rfl⟩
    · exact absurd rfl hinc
    · exact absurd rfl hdec
    · exact absurd rfl (hset v)
  | answer => simp
  | word e hi => simp [hi] at hev

end Sys2Proof.Machine
end

section
/-!
PROOF of the statements about `UPDATE` and about the control surface, each as a whole next state. `UPDATE` is read off
its branch: the resets of `Off` (R102), one ramp step (R104, R105) or `on_step()` (R107); a command is read off the
rule of its run state.
-/

namespace Sys2Proof.Machine

/-! ## The ramp step on either side of the threshold -/

theorem State.rampStep_of_lt {s : State}
    (h : s.cfg.highSpeedThreshold.toNat < (satSub s.period s.cfg.rampStep).toNat) :
    s.rampStep = { s with duty := s.cfg.rampDuty, period := satSub s.period s.cfg.rampStep } := by
  rw [rampStep_eq]
  exact if_neg (not_le.mpr h)

theorem State.rampStep_of_le {s : State}
    (h : (satSub s.period s.cfg.rampStep).toNat ≤ s.cfg.highSpeedThreshold.toNat) :
    s.rampStep = { s with
      duty := s.cfg.idleDuty, period := satSub s.period s.cfg.rampStep, runState := .on, vsys := s.vbatt
      manualFlag := false } := by
  rw [rampStep_eq]
  exact if_pos h

/-! ## UPDATE in Off and in RampUp -/

/-- Settles O15. -/
theorem updateInOffResets : Obligations.UpdateInOffResets := by
  intro s hoff hreq
  rw [exec_update, State.updateBranch_of_idle (s := s.begin) hoff hreq]
  rfl

/-- Settles O16: the branch is one ramp step from the low-speed period, on either side of the threshold. -/
theorem updateStartsRamp : Obligations.UpdateStartsRamp := by
  intro s hoff hreq
  refine ⟨satSub s.cfg.lowSpeedPeriod s.cfg.rampStep, satSub_toNat .., fun hlonger => ?_, fun hended => ?_⟩
  · rw [exec_update, State.updateBranch_of_start (s := s.begin) hoff hreq,
      State.rampStep_of_lt (s := s.begin.started) hlonger]
    rfl
  · rw [exec_update, State.updateBranch_of_start (s := s.begin) hoff hreq,
      State.rampStep_of_le (s := s.begin.started) hended]
    rfl

/-- Settles O17. -/
theorem updateShortensRamp : Obligations.UpdateShortensRamp := by
  intro s hramp hlonger
  refine ⟨satSub s.period s.cfg.rampStep, satSub_toNat .., ?_⟩
  rw [← satSub_toNat] at hlonger
  rw [exec_update, State.updateBranch_of_rampUp (s := s.begin) hramp, State.rampStep_of_lt (s := s.begin) hlonger]
  rfl

/-- Settles O18: the bucket and the flag are those the ramp's invariant names. -/
theorem updateEndsRamp : Obligations.UpdateEndsRamp := by
  intro s hramp hended
  refine ⟨satSub s.period s.cfg.rampStep, satSub_toNat .., ?_, fun hinv => ?_⟩
  · rw [← satSub_toNat] at hended
    rw [exec_update, State.updateBranch_of_rampUp (s := s.begin) hramp, State.rampStep_of_le (s := s.begin) hended]
    rfl
  · obtain ⟨hbucket, hfault, -⟩ := hinv hramp
    exact ⟨hbucket, hfault⟩

/-! ## UPDATE in On -/

/-- At or above the threshold the bucket gains one while there is room, and stands when it is full (R132). -/
theorem State.bucketStep_bucket_of_high {s : State} (h : s.cfg.vShutdownThreshold.toNat ≤ s.vsys.toNat) :
    (s.bucket.toNat < s.cfg.bucketCapacity.toNat → s.bucketStep.bucket.toNat = s.bucket.toNat + 1) ∧
      (s.cfg.bucketCapacity.toNat ≤ s.bucket.toNat → s.bucketStep.bucket = s.bucket) := by
  simp only [bucketStep_eq, if_neg (not_lt.mpr h)]
  refine ⟨fun hroom => ?_, fun hfull => if_neg (not_lt.mpr hfull)⟩
  have := s.cfg.bucketCapacity.isLt
  rw [if_pos hroom]
  exact succ_toNat (by omega)

theorem State.onStep_vsys_toNat (s : State) : s.onStep.vsys.toNat = (s.vsys.toNat + s.vbatt.toNat) / 2 := by
  rw [onStep_vsys, vsysAverage_vsys, mean_toNat]

/-- Settles O19: each value is a register `on_step()` leaves, in terms of the one before. -/
theorem updateInOnRunsItsSteps : Obligations.UpdateInOnRunsItsSteps := by
  intro s hon
  have hskip := State.forced_skipsLookup_iff s.begin
  refine ⟨s.begin.onStep.vsys, s.begin.onStep.bucket, s.begin.onStep.duty, s.begin.onStep.period,
    s.begin.onStep.faultFlag, ?vsys, ?low, ?high, ?fault, s.begin.onStep_duty_of_faultFlag, ?skipped, ?entry, ?next⟩
  case vsys => exact s.begin.onStep_vsys_toNat
  case low =>
    rw [State.onStep_vsys, State.onStep_bucket]
    exact State.bucketStep_bucket_of_lt (s := s.begin.vsysAverage)
  case high =>
    rw [State.onStep_vsys, State.onStep_bucket]
    exact State.bucketStep_bucket_of_high (s := s.begin.vsysAverage)
  case fault =>
    rw [State.onStep_faultFlag, State.begin_faultFlag, beq_eq_decide]
    exact congrArg _ (decide_eq_decide.mpr BitVec.toNat_inj.symm)
  case skipped => exact fun h => State.onStep_period_of_skipsLookup (hskip.mpr h)
  case entry =>
    intro hman e he
    rw [State.onStep_duty] at he
    rw [State.onStep_period_of_entry (s := s.begin) hman he, State.begin_period]
    refine ⟨stepToward_up, stepToward_down, ?_⟩
    rintro rfl
    exact stepToward_self s.period
  case next =>
    rw [exec_update_of_on hon]
    exact congrArg (fun u => Host.Outcome.next (u.emit (.armTimer s.begin.onStep.period))) s.begin.onStep_frame

/-- Settles O21: the average is the floor of the mean, and a mean lies between its two values. -/
theorem voltageAverageMovesTowardEstimate : Obligations.VoltageAverageMovesTowardEstimate := by
  intro s hon
  have hmean : s.begin.onStep.vsys.toNat = (s.vsys.toNat + s.vbatt.toNat) / 2 := s.begin.onStep_vsys_toNat
  refine ⟨_, exec_update_of_on hon, hmean, ?_, ?_, ?_, ?_⟩ <;> rw [State.emit_vsys]
  · omega
  · omega
  · exact fun h => BitVec.eq_of_toNat_eq (by omega)
  · exact fun h => BitVec.eq_of_toNat_eq (by omega)

/-! ## The life of the fault flag and of the run state -/

/-- A flag once set stands in `RampUp` and in `On` (R133). -/
theorem State.updateBranch_faultFlag_of_set {s : State} (hrun : s.running) (hset : s.faultFlag = true) :
    s.updateBranch.faultFlag = true := by
  cases hr : s.runState with
  | off => exact absurd hr hrun
  | rampUp => rw [State.updateBranch_faultFlag_of_rampUp hr, hset]
  | on => rw [State.updateBranch_of_on hr, State.onStep_faultFlag, hset, Bool.true_or]

/-- Settles O24: no other operation writes the flag, and `UPDATE` clears it in `Off` alone. -/
theorem faultEndsOnlyByUpdateInOff : Obligations.FaultEndsOnlyByUpdateInOff := by
  refine ⟨fun i s t h hset hclear => ?_, fun s hoff => ?_⟩
  · have hi : i = .update := by
      by_contra hne
      rw [exec_faultFlag_of_ne_update h hne, hset] at hclear
      cases hclear
    subst hi
    refine ⟨rfl, ?_⟩
    by_contra hrun
    rw [exec_update] at h
    cases h
    rw [State.emit_faultFlag, State.updateBranch_faultFlag_of_set (s := s.begin) hrun hset] at hclear
    cases hclear
  · exact ⟨_, exec_update s, State.updateBranch_faultFlag_of_off (s := s.begin) hoff⟩

@[simp] theorem State.onStep_runState (s : State) : s.onStep.runState = s.runState := by
  rw [onStep_frame]

theorem State.rampStep_runState (s : State) :
    s.rampStep.runState = s.runState ∨
      s.rampStep.runState = .on ∧ s.period.toNat - s.cfg.rampStep.toNat ≤ s.cfg.highSpeedThreshold.toNat := by
  rcases lt_or_ge s.cfg.highSpeedThreshold.toNat (satSub s.period s.cfg.rampStep).toNat with hlt | hle
  · exact .inl (by rw [rampStep_of_lt hlt])
  · rw [rampStep_of_le hle]
    rw [satSub_toNat] at hle
    exact .inr ⟨rfl, hle⟩

/-- Settles O29: of the nine shapes, `UPDATE` and the stop procedure alone write the run state. -/
theorem runStateTransitions : Obligations.RunStateTransitions := by
  intro i s t h hne
  cases leaves_of_exec h with
  | idleTick =>
    rw [State.idlePath_eq] at hne
    exact absurd rfl hne
  | runTick =>
    rw [State.runTick_runState] at hne
    exact absurd rfl hne
  | update hi =>
    rw [State.emit_runState] at hne ⊢
    cases hr : s.runState with
    | off =>
      cases hreq : s.startReq with
      | false =>
        rw [State.updateBranch_of_idle (s := s.begin) hr hreq] at hne
        exact absurd rfl hne
      | true =>
        rw [State.updateBranch_of_start (s := s.begin) hr hreq]
        rcases s.begin.started.rampStep_runState with hramp | ⟨hon, hended⟩
        · exact .inl ⟨hi, rfl, rfl, hramp⟩
        · exact .inr (.inl ⟨hi, rfl, rfl, hon, hended⟩)
    | rampUp =>
      rw [State.updateBranch_of_rampUp (s := s.begin) hr] at hne ⊢
      rcases s.begin.rampStep_runState with hsame | ⟨hon, hended⟩
      · exact absurd hsame hne
      · exact .inr (.inr (.inl ⟨hi, rfl, hon, hended⟩))
    | on =>
      rw [State.updateBranch_of_on (s := s.begin) hr, State.onStep_runState] at hne
      exact absurd rfl hne
  | stop hi => exact .inr (.inr (.inr ⟨hi, rfl⟩))
  | request | manual | duty | answer | word => exact absurd rfl hne

/-! ## The control surface -/

/-- Settles O50. -/
theorem startRampOnlyRequests : Obligations.StartRampOnlyRequests :=
  fun _ => ⟨exec_startRamp_of_off, exec_startRamp_of_running⟩

/-- Settles O51: after a stop a `TICK` and an `UPDATE` find the machine in `Off` with no start pending. -/
theorem stopIsImmediate : Obligations.StopIsImmediate := by
  refine fun s => ⟨rfl, fun t ht => ?_⟩
  cases ht
  refine ⟨fun arg => ⟨_, tickInOffAssertsPosture _ arg rfl, ⟨rfl, rfl⟩, rfl⟩, ?_⟩
  exact ⟨_, updateInOffResets _ rfl rfl, rfl, rfl, rfl, rfl⟩

/-- Settles O53: the two saturations as numbers, and the rule of each run state. -/
theorem manualStepsBiasPeriod : Obligations.ManualStepsBiasPeriod := by
  refine fun s => ⟨fun hoff => ⟨exec_manSpdInc_of_off hoff, ?_⟩, fun hramp => ⟨exec_manSpdInc_of_rampUp hramp, ?_⟩,
    fun hon => ⟨satSub s.period s.cfg.manualStep, satAdd s.period s.cfg.manualStep, satSub_toNat .., satAdd_toNat ..,
      exec_manSpdInc_of_on hon, exec_manSpdDec_of_on hon⟩⟩
  · exact exec_manSpdDec_of_not_on (by rw [hoff]; nofun)
  · exact exec_manSpdDec_of_not_on (by rw [hramp]; nofun)

/-- Settles O57: the number of the run state, widened. -/
theorem getStateAnswersRunState : Obligations.GetStateAnswersRunState := by
  intro s
  refine (done_begin_respond s (s.runState.code.setWidth 16)).trans ?_
  cases s.runState <;> rfl

/-- Settles O58. -/
theorem reservedCodeIsRefused : Obligations.ReservedCodeIsRefused := by
  intro s arg
  refine ⟨?_, rfl, by decide⟩
  rw [decode, decodeEvent_eventWord, if_neg (by decide), if_neg (by decide)]
  rfl

/-! ## The duty controller -/

theorem State.increment_toNat (s : State) :
    s.increment.duty.toNat =
      if s.duty.toNat < s.cfg.dutyGuard.toNat then s.duty.toNat + 1 else s.duty.toNat := by
  have := s.cfg.dutyGuard.isLt
  simp only [increment_eq]
  split
  · exact succ_toNat (by omega)
  · rfl

theorem State.decrement_toNat (s : State) : s.decrement.duty.toNat = s.duty.toNat - 1 := by
  simp only [decrement_eq]
  split
  · next hpos => exact pred_toNat hpos
  · next hzero => omega

theorem exec_dutyInc (s : State) :
    exec .dutyInc s = .next { s with duty := s.increment.duty, response := answer 0, effects := [] } := by
  rw [exec, execDutyInc, State.increment_eq, State.increment_eq]
  rfl

theorem exec_dutyDec (s : State) :
    exec .dutyDec s = .next { s with duty := s.decrement.duty, response := answer 0, effects := [] } := by
  rw [exec, execDutyDec, State.decrement_eq, State.decrement_eq]
  rfl

/-- Settles O54. -/
theorem dutyStepsAreClamped : Obligations.DutyStepsAreClamped :=
  fun s => ⟨s.increment.duty, s.decrement.duty, s.increment_toNat, s.decrement_toNat, exec_dutyInc s, exec_dutyDec s⟩

/-- Settles O52: the regions are disjoint in a legal machine, and in `On` the duty moves by `increment` or `decrement`
toward the operand. -/
theorem setCmdDutyRegions : Obligations.SetCmdDutyRegions := by
  intro s c hlegal
  obtain ⟨-, -, -, -, -, -, -, hregions, -⟩ := Cfg.legal_bounds hlegal
  refine ⟨fun hrun => ⟨fun hoff => ?off, fun hramp => ?ramp, fun hon => ?on⟩, fun hstop => ?stop,
    fun hstop hrun => ?dead⟩
  case off => rw [exec_setCmdDuty_of_run hrun, State.nudge_of_off (s := s.begin) hoff]; rfl
  case ramp => rw [exec_setCmdDuty_of_run hrun, State.nudge_of_rampUp (s := s.begin) hramp]; rfl
  case on =>
    rw [exec_setCmdDuty_of_run hrun, State.nudge_of_on (s := s.begin) hon]
    have hup := s.increment_toNat
    have hdown := s.decrement_toNat
    rcases lt_trichotomy s.duty.toNat c.toNat with hlt | heq | hgt
    · refine ⟨s.increment.duty, fun _ => ⟨fun hguard => ?_, fun hguard => ?_⟩, fun h => by omega,
        fun h => by subst h; omega, ?_⟩
      · rw [hup, if_pos hguard]
      · rw [State.increment_eq]
        exact if_neg (not_lt.mpr hguard)
      · refine congrArg Host.Outcome.next ((if_pos hlt).trans ?_)
        rw [State.increment_eq, State.increment_eq]
        rfl
    · refine ⟨s.duty, fun h => by omega, fun h => by omega, fun _ => rfl, ?_⟩
      exact congrArg Host.Outcome.next ((if_neg heq.not_lt).trans (if_neg heq.not_gt))
    · refine ⟨s.decrement.duty, fun h => by omega, fun _ => by omega, fun h => by subst h; omega, ?_⟩
      refine congrArg Host.Outcome.next (((if_neg hgt.not_gt).trans (if_pos hgt)).trans ?_)
      rw [State.decrement_eq, State.decrement_eq]
      rfl
  case stop => exact exec_setCmdDuty_of_stop (by omega) hstop
  case dead => exact exec_setCmdDuty_of_deadBand (not_lt.mpr hrun) (not_lt.mpr hstop)

end Sys2Proof.Machine
end

section
/-!
PROOF of the statements about sequences. What every instruction of a sequence keeps, the sequence keeps; the guard on
the duty (R183) and the life of a fault (R135) are of this kind. The ramp (R108) and the sag (R135(a)) count their
`UPDATE`s, and each is an induction over the sequence with the count so far in the invariant.
-/

namespace Sys2Proof.Machine

/-! ## Inductions over a sequence -/

theorem runOps_total (ops : List Instr) (s : State) : ∃ t, runOps ops s = .next t := by
  induction ops generalizing s with
  | nil => exact ⟨s, rfl⟩
  | cons i rest ih =>
    obtain ⟨u, hu⟩ := exec_total i s
    obtain ⟨t, ht⟩ := ih u
    exact ⟨t, by rw [runOps_cons hu, ht]⟩

theorem runOps_cons_inv {i : Instr} {rest : List Instr} {s t : State} (h : runOps (i :: rest) s = .next t) :
    ∃ u, exec i s = .next u ∧ runOps rest u = .next t := by
  obtain ⟨u, hu⟩ := exec_total i s
  rw [runOps_cons hu] at h
  exact ⟨u, hu, h⟩

/-- What each instruction of a sequence keeps, the sequence keeps. -/
theorem runOps_keeps {P : State → Prop} {ops : List Instr}
    (hstep : ∀ i ∈ ops, ∀ s t, exec i s = .next t → P s → P t) {s t : State} (h : runOps ops s = .next t)
    (hs : P s) : P t := by
  induction ops generalizing s with
  | nil =>
    cases h
    exact hs
  | cons i rest ih =>
    obtain ⟨u, hu, hrest⟩ := runOps_cons_inv h
    rw [List.forall_mem_cons] at hstep
    obtain ⟨hi, hrests⟩ := hstep
    exact ih hrests hrest (hi s u hu hs)

theorem runOps_cfg {ops : List Instr} {s t : State} (h : runOps ops s = .next t) : t.cfg = s.cfg :=
  runOps_keeps (P := fun u => u.cfg = s.cfg) (fun _ _ _ _ hexec hcfg => (exec_cfg hexec).trans hcfg) h rfl

/-! ## The duty within its guard -/

/-- A legal configuration and a duty within its guard (R7(c), R43(d)). -/
def State.DutyWithin (s : State) : Prop := s.cfg.legal = true ∧ s.duty.toNat ≤ s.cfg.dutyGuard.toNat

theorem State.updateBranch_duty (s : State) :
    s.updateBranch.duty = s.duty ∨ s.updateBranch.duty = 0 ∨ s.updateBranch.duty = s.cfg.rampDuty ∨
      s.updateBranch.duty = s.cfg.idleDuty := by
  have hramp (u : State) : u.rampStep.duty = u.cfg.rampDuty ∨ u.rampStep.duty = u.cfg.idleDuty := by
    rw [State.rampStep_eq]
    dsimp only
    split
    · exact .inr rfl
    · exact .inl rfl
  cases hr : s.runState with
  | off =>
    cases hreq : s.startReq with
    | false =>
      rw [State.updateBranch_of_idle hr hreq]
      exact .inl rfl
    | true =>
      rw [State.updateBranch_of_start hr hreq]
      exact .inr (.inr (hramp s.started))
  | rampUp =>
    rw [State.updateBranch_of_rampUp hr]
    exact .inr (.inr (hramp s))
  | on =>
    rw [State.updateBranch_of_on hr, State.onStep_duty_of_faultFlag]
    split
    · exact .inr (.inl rfl)
    · exact .inl rfl

theorem exec_keeps_dutyWithin {i : Instr} {s t : State} (h : exec i s = .next t) (hs : s.DutyWithin) :
    t.DutyWithin := by
  obtain ⟨hlegal, hduty⟩ := hs
  obtain ⟨-, -, hramp, hidle, -⟩ := Cfg.legal_bounds hlegal
  rw [State.DutyWithin, exec_cfg h]
  refine ⟨hlegal, ?_⟩
  cases leaves_of_exec h with
  | idleTick =>
    rw [State.idlePath_eq]
    exact hduty
  | runTick =>
    rw [State.runTick_frame]
    exact hduty
  | update =>
    rw [State.emit_duty]
    rcases s.begin.updateBranch_duty with hd | hd | hd | hd <;> rw [hd]
    · exact hduty
    · exact Nat.zero_le _
    · exact hramp
    · exact hidle
  | duty d hi hguard => exact hguard hduty
  | stop | request | manual | answer | word => exact hduty

/-- Two duty steps, one after the other. -/
theorem runOps_dutyInc_dutyDec (s : State) : ∃ t, runOps [.dutyInc, .dutyDec] s = .next t ∧
    t.duty.toNat = s.increment.duty.toNat - 1 := by
  rw [runOps_cons (exec_dutyInc s), runOps_cons (exec_dutyDec _)]
  exact ⟨_, rfl, State.decrement_toNat _⟩

theorem runOps_dutyDec_dutyInc (s : State) : ∃ t, runOps [.dutyDec, .dutyInc] s = .next t ∧
    t.duty.toNat =
      if s.decrement.duty.toNat < s.cfg.dutyGuard.toNat then s.decrement.duty.toNat + 1
      else s.decrement.duty.toNat := by
  rw [runOps_cons (exec_dutyDec s), runOps_cons (exec_dutyInc _)]
  exact ⟨_, rfl, State.increment_toNat _⟩

/-- Settles O55: every instruction keeps the guard; the two steps undo each other by their clamps. -/
theorem dutyNeverPassesGuard : Obligations.DutyNeverPassesGuard := by
  refine ⟨fun ops s t hlegal hduty h => ?_, fun s hduty => ?_, fun s hduty => ?_⟩
  · obtain ⟨-, ht⟩ := runOps_keeps (fun _ _ _ _ => exec_keeps_dutyWithin) h ⟨hlegal, hduty⟩
    rwa [runOps_cfg h] at ht
  · obtain ⟨t, ht, htduty⟩ := runOps_dutyInc_dutyDec s
    rw [State.increment_toNat] at htduty
    refine ⟨t, ht, fun hlt => BitVec.eq_of_toNat_eq ?_, fun heq => ?_⟩
    · rw [htduty, if_pos hlt]
      omega
    · rw [htduty, heq, if_neg (lt_irrefl _)]
  · obtain ⟨t, ht, htduty⟩ := runOps_dutyDec_dutyInc s
    rw [State.decrement_toNat] at htduty
    refine ⟨t, ht, fun hne => BitVec.eq_of_toNat_eq ?_, fun hzero hguard => BitVec.eq_of_toNat_eq ?_⟩
    · have hpos : s.duty.toNat ≠ 0 := fun h => hne (BitVec.eq_of_toNat_eq h)
      rw [htduty, if_pos (by omega)]
      omega
    · have hz : s.duty.toNat = 0 := congrArg BitVec.toNat hzero
      rw [htduty, hz, if_pos (by omega)]
      rfl

/-! ## Between two UPDATEs -/

/-- What every instruction but `UPDATE` and a stop leaves of the state machine (R109, R222). -/
theorem exec_between {i : Instr} {s t : State} (h : exec i s = .next t) (hupd : i ≠ .update)
    (hstop : i.stops s.cfg = false) :
    t.runState = s.runState ∧ (s.startReq = true → t.startReq = true) ∧
      (s.runState ≠ .on → t.period = s.period) := by
  cases leaves_of_exec h with
  | idleTick =>
    rw [State.idlePath_eq]
    exact ⟨rfl, id, fun _ => rfl⟩
  | runTick =>
    rw [State.runTick_frame]
    exact ⟨rfl, id, fun _ => rfl⟩
  | update hi => exact absurd hi hupd
  | stop hi =>
    rw [hi] at hstop
    cases hstop
  | request => exact ⟨rfl, fun _ => rfl, fun _ => rfl⟩
  | manual period hi hon => exact ⟨rfl, id, fun hne => absurd hon hne⟩
  | duty | answer | word => exact ⟨rfl, id, fun _ => rfl⟩

theorem exec_bucket_of_ne_update {i : Instr} {s t : State} (h : exec i s = .next t) (hupd : i ≠ .update) :
    t.bucket = s.bucket := by
  cases leaves_of_exec h with
  | idleTick =>
    rw [State.idlePath_eq]
    rfl
  | runTick =>
    rw [State.runTick_frame]
    rfl
  | update hi => exact absurd hi hupd
  | stop | request | manual | duty | answer | word => rfl

theorem updates_cons (i : Instr) (rest : List Instr) :
    updates (i :: rest) = updates rest + if i = .update then 1 else 0 := by
  simp [updates, List.count_cons]

/-! ## The ramp -/

/-- The ramp's length is the number of steps that leave the period above the threshold, and one more (R108). -/
theorem lt_rampLength_iff {c : Cfg} (hlegal : c.legal = true) (k : Nat) :
    k < rampLength c ↔ c.highSpeedThreshold.toNat < c.lowSpeedPeriod.toNat - k * c.rampStep.toNat := by
  obtain ⟨-, hstep, -⟩ := Cfg.legal_bounds hlegal
  rw [rampLength, Nat.lt_iff_add_one_le, Nat.le_div_iff_mul_le hstep, Nat.add_mul, Nat.one_mul]
  omega

/-- The machine `k` updates after a start was accepted under `c`, the ramp not yet ended. -/
structure State.RampAt (c : Cfg) (k : Nat) (s : State) : Prop where
  cfg : s.cfg = c
  pending : k = 0 → s.runState = .off ∧ s.startReq = true
  ramping : k ≠ 0 → s.runState = .rampUp ∧ s.period.toNat = c.lowSpeedPeriod.toNat - k * c.rampStep.toNat

theorem State.RampAt.between {c : Cfg} {k : Nat} {i : Instr} {s t : State} (hs : s.RampAt c k)
    (h : exec i s = .next t) (hupd : i ≠ .update) (hstop : i.stops c = false) : t.RampAt c k := by
  rw [← hs.cfg] at hstop
  obtain ⟨hrun, hreq, hperiod⟩ := exec_between h hupd hstop
  refine ⟨(exec_cfg h).trans hs.cfg, fun hk => ?_, fun hk => ?_⟩
  · obtain ⟨hoff, hpending⟩ := hs.pending hk
    exact ⟨hrun.trans hoff, hreq hpending⟩
  · obtain ⟨hramp, hp⟩ := hs.ramping hk
    rw [hperiod (by rw [hramp]; nofun)]
    exact ⟨hrun.trans hramp, hp⟩

/-- The next `UPDATE` takes one ramp step from the period of `k` steps, the first one after the resets of `Off`. -/
theorem State.RampAt.updateBranch {c : Cfg} {k : Nat} {s : State} (hs : s.RampAt c k) :
    ∃ u, s.updateBranch = State.rampStep u ∧ u.cfg = c ∧ u.runState = .rampUp ∧
      (satSub u.period c.rampStep).toNat = c.lowSpeedPeriod.toNat - (k + 1) * c.rampStep.toNat := by
  rcases eq_or_ne k 0 with rfl | hk
  · obtain ⟨hoff, hreq⟩ := hs.pending rfl
    refine ⟨s.started, State.updateBranch_of_start hoff hreq, hs.cfg, rfl, ?_⟩
    rw [satSub_toNat, show s.started.period = s.cfg.lowSpeedPeriod from rfl, hs.cfg]
    omega
  · obtain ⟨hramp, hperiod⟩ := hs.ramping hk
    refine ⟨s, State.updateBranch_of_rampUp hramp, hs.cfg, hramp, ?_⟩
    rw [satSub_toNat, hperiod, Nat.add_mul]
    omega

/-- An `UPDATE` before the ramp's length leaves the next position, the one at it `On` (R104, R105). -/
theorem State.RampAt.update {c : Cfg} (hlegal : c.legal = true) {k : Nat} {s : State} (hs : s.RampAt c k) :
    ∃ t, exec .update s = .next t ∧ t.cfg = c ∧
      t.period.toNat = c.lowSpeedPeriod.toNat - (k + 1) * c.rampStep.toNat ∧
      (k + 1 < rampLength c → t.runState = .rampUp ∧ t.duty = c.rampDuty) ∧
      (rampLength c ≤ k + 1 → t.runState = .on ∧ t.duty = c.idleDuty) := by
  have hbegin : s.begin.RampAt c k := { hs with }
  obtain ⟨u, hu, hcfg, hrun, hp⟩ := hbegin.updateBranch
  have hiff := lt_rampLength_iff hlegal (k + 1)
  rw [← hp] at hiff
  subst hcfg
  refine ⟨_, exec_update s, ?_⟩
  rw [hu]
  rcases lt_or_ge u.cfg.highSpeedThreshold.toNat (satSub u.period u.cfg.rampStep).toNat with hlt | hle
  · rw [State.rampStep_of_lt hlt]
    exact ⟨rfl, hp, fun _ => ⟨hrun, rfl⟩, fun hge => absurd (hiff.mpr hlt) (not_lt.mpr hge)⟩
  · rw [State.rampStep_of_le hle]
    exact ⟨rfl, hp, fun hlt => absurd (hiff.mp hlt) (not_lt.mpr hle), fun _ => ⟨rfl, rfl⟩⟩

theorem State.RampAt.runOps {c : Cfg} (hlegal : c.legal = true) {ops : List Instr}
    (hstop : ∀ i ∈ ops, i.stops c = false) {k : Nat} {s : State} (hs : s.RampAt c k)
    (hlen : k + updates ops < rampLength c) :
    ∃ t, Machine.runOps ops s = .next t ∧ t.RampAt c (k + updates ops) := by
  induction ops generalizing k s with
  | nil => exact ⟨s, rfl, hs⟩
  | cons i rest ih =>
    rw [List.forall_mem_cons] at hstop
    obtain ⟨hi, hrest⟩ := hstop
    rw [updates_cons] at hlen ⊢
    by_cases hupd : i = .update
    · subst hupd
      simp only [if_true] at hlen ⊢
      obtain ⟨u, hu, hcfg, hperiod, hramp, -⟩ := hs.update hlegal
      have hat : u.RampAt c (k + 1) :=
        ⟨hcfg, fun hzero => absurd hzero (Nat.succ_ne_zero k), fun _ => ⟨(hramp (by omega)).1, hperiod⟩⟩
      obtain ⟨t, ht, htat⟩ := ih hrest hat (by omega)
      rw [Nat.add_right_comm] at htat
      exact ⟨t, by rw [runOps_cons hu, ht], htat⟩
    · simp only [if_neg hupd] at hlen ⊢
      obtain ⟨u, hu⟩ := exec_total i s
      obtain ⟨t, ht, htat⟩ := ih hrest (hs.between hu hupd hi) hlen
      exact ⟨t, by rw [runOps_cons hu, ht], htat⟩

/-- Settles O28: the sequence brings the ramp to the position of its updates, and the last `UPDATE` takes the step after
it. -/
theorem rampTakesItsLengthInUpdates : Obligations.RampTakesItsLengthInUpdates := by
  intro s ops hlegal hoff hreq hstop hlen
  have hstart : s.RampAt s.cfg 0 := ⟨rfl, fun _ => ⟨hoff, hreq⟩, fun hne => absurd rfl hne⟩
  obtain ⟨u, hu, hat⟩ := hstart.runOps hlegal hstop (by omega)
  rw [Nat.zero_add] at hat
  obtain ⟨t, ht, -, hperiod, hramp, hend⟩ := hat.update hlegal
  exact ⟨t, by rw [runOps_append hu, runOps_cons ht, runOps_nil], hperiod, hramp, fun heq => hend heq.ge⟩

/-! ## The fault lasts -/

theorem exec_update_of_faulted {s : State} (hon : s.runState = .on) (hfault : s.faultFlag = true) :
    ∃ t, exec .update s = .next t ∧ t.runState = .on ∧ t.faultFlag = true ∧ t.duty = 0 := by
  have hflag : s.begin.onStep.faultFlag = true := by
    rw [State.onStep_faultFlag, State.begin_faultFlag, hfault, Bool.true_or]
  refine ⟨_, exec_update_of_on hon, s.begin.onStep_runState.trans hon, hflag, ?_⟩
  rw [State.emit_duty, State.onStep_duty_of_faultFlag, if_pos hflag]

/-- In `On` with the flag set, everything but a stop leaves the machine so: the flag is latched (R133). -/
theorem exec_keeps_fault {i : Instr} {s t : State} (h : exec i s = .next t) (hstop : i.stops s.cfg = false)
    (hon : s.runState = .on) (hfault : s.faultFlag = true) : t.runState = .on ∧ t.faultFlag = true := by
  by_cases hupd : i = .update
  · subst hupd
    obtain ⟨u, hu, hrun, hflag, -⟩ := exec_update_of_faulted hon hfault
    cases h.symm.trans hu
    exact ⟨hrun, hflag⟩
  · exact ⟨(exec_between h hupd hstop).1.trans hon, (exec_faultFlag_of_ne_update h hupd).trans hfault⟩

/-- Settles O60: each instruction of the sequence keeps the fault, and an `UPDATE` after it forces the duty. -/
theorem faultHoldsUntilStop : Obligations.FaultHoldsUntilStop := by
  intro ops s hon hfault hstop
  obtain ⟨t, ht⟩ := runOps_total ops s
  have hstep : ∀ i ∈ ops, ∀ u v, exec i u = .next v →
      (u.cfg = s.cfg ∧ u.runState = .on ∧ u.faultFlag = true) →
      v.cfg = s.cfg ∧ v.runState = .on ∧ v.faultFlag = true := by
    rintro i hi u v hexec ⟨hcfg, hrun, hflag⟩
    exact ⟨(exec_cfg hexec).trans hcfg, exec_keeps_fault hexec (by rw [hcfg, hstop i hi]) hrun hflag⟩
  obtain ⟨-, htrun, htflag⟩ := runOps_keeps hstep ht ⟨rfl, hon, hfault⟩
  exact ⟨t, ht, htrun, htflag, exec_update_of_faulted htrun htflag⟩

/-! ## Detection needs sustained sag -/

theorem State.rampStep_bucket (s : State) : s.rampStep.bucket = s.bucket := by
  rw [rampStep_eq]
  dsimp only
  split <;> rfl

/-- The bucket an `UPDATE` leaves is within its capacity, and is one lower at most, in `On` alone (R102, R132). -/
theorem State.updateBranch_bucket {s : State} (hcap : s.bucket.toNat ≤ s.cfg.bucketCapacity.toNat) :
    s.updateBranch.bucket.toNat ≤ s.cfg.bucketCapacity.toNat ∧
      s.bucket.toNat ≤ s.updateBranch.bucket.toNat + if s.runState = .on then 1 else 0 := by
  cases hr : s.runState with
  | off =>
    have hfull : s.updateBranch.bucket = s.cfg.bucketCapacity := by
      cases hreq : s.startReq with
      | false =>
        rw [updateBranch_of_idle hr hreq]
        rfl
      | true =>
        rw [updateBranch_of_start hr hreq, rampStep_bucket]
        rfl
    rw [hfull]
    exact ⟨le_rfl, hcap⟩
  | rampUp =>
    rw [updateBranch_of_rampUp hr, rampStep_bucket]
    exact ⟨hcap, le_rfl⟩
  | on =>
    rw [updateBranch_of_on hr, onStep_bucket, if_pos rfl]
    refine ⟨bucketStep_bucket_le (s := s.vsysAverage) hcap, ?_⟩
    rcases lt_or_ge s.vsysAverage.vsys.toNat s.cfg.vShutdownThreshold.toNat with hlow | hhigh
    · rw [bucketStep_bucket_of_lt hlow, vsysAverage_bucket]
      omega
    · rw [bucketStep_bucket_of_le (s := s.vsysAverage) hhigh hcap, vsysAverage_bucket, vsysAverage_cfg]
      omega

/-- The same over every instruction. -/
theorem exec_bucket {i : Instr} {s t : State} (h : exec i s = .next t)
    (hcap : s.bucket.toNat ≤ s.cfg.bucketCapacity.toNat) :
    t.bucket.toNat ≤ t.cfg.bucketCapacity.toNat ∧
      s.bucket.toNat ≤ t.bucket.toNat + if i = .update ∧ s.runState = .on then 1 else 0 := by
  rw [exec_cfg h]
  by_cases hupd : i = .update
  · subst hupd
    rw [exec_update] at h
    cases h
    obtain ⟨hle, hlost⟩ := State.updateBranch_bucket (s := s.begin) hcap
    refine ⟨hle, ?_⟩
    by_cases hon : s.runState = .on
    · rw [if_pos ⟨rfl, hon⟩]
      rwa [State.begin_runState, if_pos hon] at hlost
    · rw [if_neg fun h => hon h.2]
      rwa [State.begin_runState, if_neg hon] at hlost
  · rw [exec_bucket_of_ne_update h hupd]
    exact ⟨hcap, Nat.le_add_right ..⟩

/-- While the bucket holds more than the updates in `On` still to come, nothing empties it, and so nothing raises the
fault (R211). -/
theorem runOps_faultFlag_of_bucket {ops : List Instr} {s t : State} (hcap : s.bucket.toNat ≤ s.cfg.bucketCapacity.toNat)
    (hclear : s.faultFlag = false) (hfew : updatesInOn ops s < s.bucket.toNat) (h : runOps ops s = .next t) :
    t.faultFlag = false := by
  induction ops generalizing s with
  | nil =>
    cases h
    exact hclear
  | cons i rest ih =>
    obtain ⟨u, hu, hrest⟩ := runOps_cons_inv h
    obtain ⟨hucap, hubucket⟩ := exec_bucket hu hcap
    rw [updatesInOn_cons hu] at hfew
    have hufew : updatesInOn rest u < u.bucket.toNat := by omega
    have huclear : u.faultFlag = false := by
      by_contra hset
      obtain ⟨-, -, hempty, -⟩ := faultRaisedOnlyByUpdateInOn i s u hu hclear (by simpa using hset)
      rw [hempty] at hufew
      exact absurd hufew (Nat.not_lt_zero _)
    exact ih hucap huclear hufew hrest

/-- Every `UPDATE` of the sequence and the one after it leaves `Vsys` below the threshold. -/
def State.Sags (s : State) (ops : List Instr) : Prop :=
  ∀ (pre : List Instr) (u : State), pre ++ [.update] <+: ops ++ [.update] →
    runOps (pre ++ [.update]) s = .next u → u.vsys.toNat < s.cfg.vShutdownThreshold.toNat

theorem State.Sags.tail {i : Instr} {rest : List Instr} {s u : State} (h : s.Sags (i :: rest))
    (hu : exec i s = .next u) : u.Sags rest := by
  intro pre v hpre hv
  rw [exec_cfg hu]
  refine h (i :: pre) v ?_ ?_
  · exact (List.prefix_cons_inj i).mpr hpre
  · rw [List.cons_append, runOps_cons hu, hv]

theorem State.Sags.head {ops : List Instr} {s u : State} (h : s.Sags ops) (hfirst : [.update] <+: ops ++ [.update])
    (hu : exec .update s = .next u) : u.vsys.toNat < s.cfg.vShutdownThreshold.toNat :=
  h [] u hfirst (by rw [List.nil_append, runOps_cons hu, runOps_nil])

/-- An `UPDATE` in `On` that leaves `Vsys` below the threshold takes one from the bucket (R132). -/
theorem exec_update_of_sag {s t : State} (hon : s.runState = .on) (h : exec .update s = .next t)
    (hlow : t.vsys.toNat < s.cfg.vShutdownThreshold.toNat) :
    t.runState = .on ∧ t.bucket.toNat = s.bucket.toNat - 1 := by
  rw [exec_update_of_on hon] at h
  cases h
  rw [State.emit_vsys, State.onStep_vsys] at hlow
  refine ⟨s.begin.onStep_runState.trans hon, ?_⟩
  rw [State.emit_bucket, State.onStep_bucket, State.bucketStep_bucket_of_lt (s := s.begin.vsysAverage) hlow]
  rfl

/-- An `UPDATE` in `On` that leaves the bucket empty leaves the flag set and the duty 0 (R133, R134). -/
theorem exec_update_of_empty {s t : State} (hon : s.runState = .on) (h : exec .update s = .next t)
    (hempty : t.bucket = 0) : t.faultFlag = true ∧ t.duty = 0 := by
  obtain ⟨u, hu, -, hforced, -⟩ := faultForcesDutyZero s hon
  cases h.symm.trans hu
  exact hforced hempty

/-- Through a sag with no stop each `UPDATE` takes one from the bucket, and the last one finds what is left of it. -/
theorem State.Sags.runOps {ops : List Instr} {s : State} (hsag : s.Sags ops) (hon : s.runState = .on)
    (hstop : ∀ i ∈ ops, i.stops s.cfg = false) :
    ∃ t, Machine.runOps (ops ++ [.update]) s = .next t ∧ t.runState = .on ∧
      t.bucket.toNat = s.bucket.toNat - (updates ops + 1) ∧
      (t.bucket = 0 → t.faultFlag = true ∧ t.duty = 0) := by
  induction ops generalizing s with
  | nil =>
    obtain ⟨t, ht⟩ := exec_total .update s
    obtain ⟨hrun, hbucket⟩ := exec_update_of_sag hon ht (hsag.head (List.prefix_refl _) ht)
    exact ⟨t, by rw [List.nil_append, runOps_cons ht, runOps_nil], hrun, hbucket, exec_update_of_empty hon ht⟩
  | cons i rest ih =>
    rw [List.forall_mem_cons] at hstop
    obtain ⟨hi, hrest⟩ := hstop
    obtain ⟨u, hu⟩ := exec_total i s
    obtain ⟨hurun, hubucket⟩ : u.runState = .on ∧
        u.bucket.toNat = s.bucket.toNat - if i = .update then 1 else 0 := by
      by_cases hupd : i = .update
      · subst hupd
        rw [if_pos rfl]
        exact exec_update_of_sag hon hu (hsag.head (List.prefix_append [_] _) hu)
      · rw [if_neg hupd, exec_bucket_of_ne_update hu hupd]
        exact ⟨(exec_between hu hupd hi).1.trans hon, rfl⟩
    rw [← exec_cfg hu] at hrest
    obtain ⟨t, ht, hrun, hbucket, hempty⟩ := ih (hsag.tail hu) hurun hrest
    refine ⟨t, by rw [List.cons_append, runOps_cons hu, ht], hrun, ?_, hempty⟩
    rw [hbucket, hubucket, updates_cons]
    omega

/-- In `On` with both voltages below the threshold. -/
def State.BothLow (s : State) : Prop :=
  s.runState = .on ∧ s.vsys.toNat < s.cfg.vShutdownThreshold.toNat ∧
    s.vbatt.toNat < s.cfg.vShutdownThreshold.toNat

/-- The mean of two values below the threshold is below it, and `UPDATE` leaves the estimate alone (R131). -/
theorem State.BothLow.update {s t : State} (hs : s.BothLow) (h : exec .update s = .next t) : t.BothLow := by
  obtain ⟨hon, hvsys, hvbatt⟩ := hs
  have hmean : s.begin.onStep.vsys.toNat = (s.vsys.toNat + s.vbatt.toNat) / 2 := s.begin.onStep_vsys_toNat
  have hlow : s.begin.onStep.vsys.toNat < s.cfg.vShutdownThreshold.toNat := by omega
  rw [exec_update_of_on hon] at h
  cases h
  rw [State.BothLow, State.onStep_frame]
  exact ⟨hon, hlow, hvbatt⟩

theorem updates_replicate (n : Nat) : updates (List.replicate n .update) = n := List.count_replicate_self

/-- Back to back updates from low voltages are a sag (R135(a)). -/
theorem State.BothLow.sags {s : State} (hs : s.BothLow) (n : Nat) : s.Sags (List.replicate n .update) := by
  intro pre u hpre hu
  have hall : ∀ i ∈ pre ++ [Instr.update], i = .update := by
    rw [← List.replicate_succ'] at hpre
    exact fun i hi => List.eq_of_mem_replicate (hpre.subset hi)
  have hkeeps : ∀ i ∈ pre ++ [Instr.update], ∀ a b, exec i a = .next b → a.BothLow → b.BothLow := by
    intro i hi a b hexec ha
    rw [hall i hi] at hexec
    exact ha.update hexec
  obtain ⟨-, hvsys, -⟩ := runOps_keeps hkeeps hu hs
  rwa [runOps_cfg hu] at hvsys

/-- A sag of at least as many updates as a full bucket holds ends with the bucket empty and the fault raised. -/
theorem State.Sags.raises_fault {ops : List Instr} {s : State} (hsag : s.Sags ops) (hon : s.runState = .on)
    (hfull : s.bucket = s.cfg.bucketCapacity) (hstop : ∀ i ∈ ops, i.stops s.cfg = false)
    (hmany : s.cfg.bucketCapacity.toNat ≤ updates ops + 1) :
    ∃ t, Machine.runOps (ops ++ [.update]) s = .next t ∧ t.runState = .on ∧ t.bucket = 0 ∧ t.faultFlag = true ∧
      t.duty = 0 := by
  obtain ⟨t, ht, hrun, hbucket, hempty⟩ := hsag.runOps hon hstop
  have hzero : t.bucket = 0 := by
    refine BitVec.eq_of_toNat_eq (hbucket.trans ?_)
    rw [hfull]
    exact Nat.sub_eq_zero_of_le hmany
  exact ⟨t, ht, hrun, hzero, hempty hzero⟩

/-- Settles O59: a bucket that holds more than the updates in `On` is not emptied, a sag as long as the bucket is deep
empties it, and low voltages at the start make a sag of any number of updates. -/
theorem faultNeedsSustainedSag : Obligations.FaultNeedsSustainedSag := by
  refine ⟨fun ops s t hfull hclear hfew h => ?_,
    fun ops s hon hfull hstop hmany hsag => State.Sags.raises_fault hsag hon hfull hstop hmany,
    fun s hlegal hon hfull hvsys hvbatt => ?_⟩
  · rw [← hfull] at hfew
    exact runOps_faultFlag_of_bucket (by rw [hfull]) hclear hfew h
  · obtain ⟨-, -, -, -, -, hpos, -⟩ := Cfg.legal_bounds hlegal
    obtain ⟨n, hn⟩ : ∃ n, s.cfg.bucketCapacity.toNat = n + 1 := Nat.exists_eq_add_one.mpr hpos
    have hlow : s.BothLow := ⟨hon, hvsys, hvbatt⟩
    rw [hn, List.replicate_succ']
    refine (hlow.sags n).raises_fault hon hfull (fun i hi => ?_) (by rw [updates_replicate, hn])
    rw [List.eq_of_mem_replicate hi]
    rfl

end Sys2Proof.Machine
end
